-- ==== Sys2Proof/Word.lean ====
section
/-! DEFINITION. The byte and word types of frames, messages and images (R185). -/

namespace Sys2Proof

/-- One byte of a frame, a message, a record or an image. -/
abbrev Byte := BitVec 8

/-- A two-byte number: depths, distances, targets, offsets (R185). -/
abbrev Word16 := BitVec 16

/-- A four-byte number: volumes, masses, station times (R185). -/
abbrev Word32 := BitVec 32

end Sys2Proof
end

