-- ==== Sys2Proof/Machine/Bytes.lean ====
section
/-! DEFINITION. Byte order and the two CRCs (R185, R186, R189). -/

namespace Sys2Proof.Machine

/-- A number as two bytes, most significant first (R185). -/
def bytes2 (v : Word16) : List Byte := [v.extractLsb' 8 8, v.extractLsb' 0 8]

/-- A number as four bytes, most significant first (R185). -/
def bytes4 (v : Word32) : List Byte :=
  [v.extractLsb' 24 8, v.extractLsb' 16 8, v.extractLsb' 8 8, v.extractLsb' 0 8]

/-- The number that two bytes carry (R185). -/
def word16 (high low : Byte) : Word16 := high ++ low

/-- The number that four bytes carry (R185). -/
def word32 (b3 b2 b1 b0 : Byte) : Word32 := b3 ++ b2 ++ b1 ++ b0

/-- A natural number in one, two or four bytes. -/
def nat1 (n : Nat) : List Byte := [BitVec.ofNat 8 n]
def nat2 (n : Nat) : List Byte := bytes2 (BitVec.ofNat 16 n)
def nat4 (n : Nat) : List Byte := bytes4 (BitVec.ofNat 32 n)

/-- A signed number in four bytes (R185: volumes marked signed). -/
def int4 (n : Int) : List Byte := bytes4 (BitVec.ofInt 32 n)

/-- A yes or no as one byte. -/
def bool1 (b : Bool) : List Byte := [if b then 1#8 else 0#8]

/-- One bit of the CRC-16: polynomial 0x1021, most significant bit first (R186). -/
def crc16Bit (c : Word16) : Word16 := if c.msb then (c <<< 1) ^^^ 0x1021#16 else c <<< 1

/-- One byte of the CRC-16 (R186). -/
def crc16Byte (c : Word16) (b : Byte) : Word16 :=
  crc16Bit (crc16Bit (crc16Bit (crc16Bit (crc16Bit (crc16Bit (crc16Bit (crc16Bit
    (c ^^^ (b ++ 0#8)))))))))

/-- The CRC-16 of frames, messages and the pass digest: initial value 0xFFFF, no final inversion (R186). -/
def crc16 (bytes : List Byte) : Word16 := bytes.foldl crc16Byte 0xFFFF#16

/-- One bit of the CRC-32, reflected: the polynomial 0x04C11DB7 read backwards (R189). -/
def crc32Bit (c : Word32) : Word32 := if c.getLsbD 0 then (c >>> 1) ^^^ 0xEDB88320#32 else c >>> 1

/-- One byte of the CRC-32 (R189). -/
def crc32Byte (c : Word32) (b : Byte) : Word32 :=
  crc32Bit (crc32Bit (crc32Bit (crc32Bit (crc32Bit (crc32Bit (crc32Bit (crc32Bit
    (c ^^^ b.setWidth 32))))))))

/-- The CRC-32 of a profile image: initial value 0xFFFFFFFF, reflected, inverted at the end (R189). -/
def crc32 (bytes : List Byte) : Word32 := ~~~ (bytes.foldl crc32Byte 0xFFFFFFFF#32)

end Sys2Proof.Machine
end

