-- ==== Sys2Proof/Config.lean ====
section
/-! DEFINITION. Capacities, limits, ranges and fixed times that the spec gives the part itself, and the one free
value of the model. -/

namespace Sys2Proof.Config

/-- Segments the segment list holds (R17). -/
def maxSegments : Nat := 32
/-- Frames the transmit queue holds (R132). -/
def queueCapacity : Nat := 8
/-- Failed attempts at which a frame is discarded (R137). -/
def maxAttempts : Nat := 16
/-- Discards in a row at which the line state becomes ISOLATED (R137). -/
def isolatingDiscards : Nat := 3
/-- Isolation retry timer, ms (R138). -/
def isolationRetry : Nat := 10000
/-- Upper limit of the sixteen-bit saturating counters. -/
def max16 : Nat := 65535
/-- Upper limit of the thirty-two-bit saturating counters. -/
def max32 : Nat := 4294967295
/-- Upper limit of the gap count (R144). -/
def maxGap : Nat := 255
/-- STATE period where no profile is in force, ms (R153). -/
def safeStatePeriod : Nat := 1000
/-- STATE periods of silence that make a peer SILENT (R148). -/
def silencePeriods : Nat := 3
/-- STATE periods of the roll-call (R151). -/
def rollCallPeriods : Nat := 5
/-- Time after which an input takes inactive as its first conditioned state, ms (R162). -/
def conditioningLimit : Nat := 1000
/-- Debounce of every input where no profile is in force, ms (R162). -/
def safeDebounce : Nat := 20
/-- Bytes of the load buffer and of the profile image (R182). -/
def bufferSize : Nat := 512
/-- Most bytes of a PROFILE-LOAD (R182). -/
def maxSlice : Nat := 32
/-- Longest answer on the panel link (R187). -/
def maxAnswer : Nat := 255
/-- Largest payload of a frame (R127). -/
def maxPayload : Nat := 32

/-- FREE VALUE (notes/assumptions/33.md): which of the seven withdrawal causes of 12.1 the WITHDRAW of an
overtaken OFFER carries (R82 names none), for each reading of an open value. Nothing constrains it. -/
opaque overtakenCause : Nat → Fin 7

/-- FREE VALUE (notes/assumptions/39.md): whether a STATE sent in SAFE shows where the boom and the gates stand, as
R94 and R105 say, or leaves them absent, as the table of R154 has it. Nothing constrains it. -/
opaque safeStateShowsUnits : Bool

end Sys2Proof.Config
end

