-- ==== Sys2Proof/Syntax.lean ====
section
/-! DEFINITION. The commands of the block: one constructor of `Instr` per row of spec/opcode_table.json,
with the operands that the spec's layouts give it (R185 to R188). Operands are kept as they stand on the
wire; the meanings read their codes. -/

namespace Sys2Proof

/-- The two roles of a station (scope, Roles). -/
inductive Role where
  | tip | draw
deriving DecidableEq, Repr

/-- The two chute gates of a DRAW station, and their weighers (07). -/
inductive Gate where
  | a | b
deriving DecidableEq, Repr

/-- The header fields of a received frame that a receiver reads (R127, 12.1): class, station and sequence.
Kind and payload length are told by the command. -/
structure Header where
  cls     : BitVec 2
  station : BitVec 4
  seq     : Byte
deriving DecidableEq, Repr

/-- An arrival: the station's own frame, the one on the wire, whose content the transmit queue holds; or a
frame received from another sender (R131). -/
inductive Inbound (α : Type) where
  | own
  | received (h : Header) (payload : α)
deriving DecidableEq, Repr

/-- A HOLD-SET payload, one form per allowed length 1, 2, 3 and 8 (12.1). -/
inductive HoldSetPayload where
  | len1 (kind : Byte)
  | len2 (kind second : Byte)
  | len3 (kind second third : Byte)
  | len8 (kind source : Byte) (gap : Word32) (surface : Word16)
deriving DecidableEq, Repr

/-- An OFFER payload (12.1). -/
structure OfferPayload where
  cls      : Byte
  volume   : Word32
  moisture : Byte
deriving DecidableEq, Repr

/-- A TIPPED payload (12.1). -/
structure TippedPayload where
  cls        : Byte
  volume     : Word32
  moisture   : Byte
  flags      : Byte
  generation : Byte
  cumulative : Word32
deriving DecidableEq, Repr

/-- A DRAWN payload (12.1). -/
structure DrawnPayload where
  generation : Byte
  cumulative : Word32
  flags      : Byte
deriving DecidableEq, Repr

/-- A SURFACE payload (12.1). -/
structure SurfacePayload where
  depth   : Word16
  quality : Byte
deriving DecidableEq, Repr

/-- The fields of a STATE payload, in the order of the table of 12.1. Bits the table leaves undefined are
sent as 0 and not read. -/
structure StatePayload where
  mode           : BitVec 4
  line           : BitVec 4
  haltCauses     : Byte
  entryHeld      : Bool
  hangupSource   : BitVec 2
  hangupGateB    : Bool
  modelSeeded    : Bool
  digestPresent  : Bool
  gapVolume      : Word32
  gapSurface     : Word16
  openClass      : Byte
  openVolume     : Word32
  unitHigh       : BitVec 4
  unitLow        : BitVec 4
  columnVolume   : Word32
  wetVolume      : Word32
  surface        : Word16
  generation     : Byte
  counter        : Word32
  digest         : Word16
deriving DecidableEq, Repr

/-- Which receive check a frame fails (R141). -/
inductive ReceiveFault where
  | length | truncation | crc
deriving DecidableEq, Repr

/-- What arrives on the ranging input (R188): a record with a good check, or bytes that make none. -/
inductive RangingRecord where
  | malformed
  | record (distance : Word16) (quality : BitVec 4)
deriving DecidableEq, Repr

/-- A well-formed panel message that names nothing the port has (R171). -/
inductive UnknownMessage where
  | code (c : Byte)
  | reportKind (k : Byte)
deriving DecidableEq, Repr

/-- The six strap pins as a restart finds them; true is linked to common (R179 step 1). -/
structure StrapPins where
  stn0  : Bool
  stn1  : Bool
  stn2  : Bool
  role  : Bool
  rate0 : Bool
  rate1 : Bool
deriving DecidableEq, Repr

/-- The number of a discrete input, IN1 being 0 (R160). -/
abbrev InputNo := Fin 12

/-- The commands of the block, in the order of spec/opcode_table.json. -/
inductive Instr where
  -- panel requests (R171)
  | tip (cls moisture : Byte)
  | tipCancel
  | breakWork
  | breakRenew (token : Byte)
  | breakStop
  | draw (gate mode : Byte) (target : Option Word16)
  | drawRenew (gate token : Byte)
  | drawStop (gate : Byte)
  | gateReset (gate : Byte)
  | halt
  | haltRelease
  | entry
  | entryRelease
  | hangupClear
  | seed (depth : Word16)
  | status (first : Option (Byte × Byte))
  | report (kind : Byte)
  | reportNext
  | events
  | eventAck (kinds : Word16)
  | eventEnable (kinds : Word16)
  | profileLoad (offset : Word16) (bytes : List Byte)
  | profileCommit
  | restart
  -- panel messages that are no request (R171)
  | malformedMessage
  | unknownRequest (what : UnknownMessage)
  -- arrivals on the shaft line (R131)
  | holdSetArrival (f : Inbound HoldSetPayload)
  | holdLiftArrival (f : Inbound Byte)
  | offerArrival (f : Inbound OfferPayload)
  | withdrawArrival (f : Inbound Byte)
  | tippedArrival (f : Inbound TippedPayload)
  | drawnArrival (f : Inbound DrawnPayload)
  | surfaceArrival (f : Inbound SurfacePayload)
  | stateArrival (f : Inbound StatePayload)
  | undefinedKindArrival (h : Header) (kind : BitVec 4)
  -- other line events (R128 to R141)
  | receiveError (e : ReceiveFault)
  | transmitAttemptStart
  | arbitrationLoss
  | transmitError
  | waitLimit
  | isolationRetryExpiry
  -- field events (R160 to R167)
  | stopLoopOpens
  | stopLoopCloses
  | truckPresentActive
  | truckPresentInactive
  | breakerParkActive
  | breakerParkInactive
  | closedLimitActive (g : Gate)
  | closedLimitInactive (g : Gate)
  | openLimitActive (g : Gate)
  | openLimitInactive (g : Gate)
  | receiverReadyInactive (g : Gate)
  | receiverReadyActive (g : Gate)
  | spareInputEdge (input : InputNo) (active : Bool)
  | inputFirstConditioned (input : InputNo) (active : Bool)
  | inputFirstStateForced (input : InputNo) (raw : Bool)
  | weigherPulse (g : Gate)
  | rangingRecord (r : RangingRecord)
  -- timer expiries
  | offerTimerExpiry
  | settleTimerExpiry
  | breakerRenewalExpiry
  | returnTimerExpiry
  | warningTimerExpiry (g : Gate)
  | strokeTimerExpiry (g : Gate)
  | drawRenewalExpiry (g : Gate)
  | starvationWindowExpiry (g : Gate)
  | wetRestExpiry
  | silenceTimerExpiry (station : BitVec 4)
  | rollCallTimerExpiry
  | stateTimerExpiry
  | pacingTimerExpiry
  -- store and restarts (R178 to R184)
  | storeWriteEnd (took : Bool)
  | coldRestart (pins : StrapPins)
  | warmRestart (pins : StrapPins)
  | leaveStarting
deriving DecidableEq, Repr

end Sys2Proof
end

