-- ==== Sys2Proof/Machine/State.lean ====
section
/-! DEFINITION. The state of one 7204, block by block as the spec names it, and the state right after reset. -/

namespace Sys2Proof.Machine

/-! ## Small parts -/

/-- A timer: running or stopped, with its time left in ms. A stopped timer keeps the time it is set to (R86). -/
structure Timer where
  running : Bool
  left    : Nat
deriving DecidableEq, Repr

/-- A timer that is stopped with nothing left. -/
def Timer.stopped : Timer := ⟨false, 0⟩

/-- One of each for gates A and B. -/
structure PerGate (α : Type) where
  a : α
  b : α
deriving DecidableEq, Repr

/-- The four moistures (R16). -/
inductive Moisture where
  | dry | damp | wet | unknown
deriving DecidableEq, Repr

/-- The addressed buffers of 512 bytes: address and byte, addresses rising, no byte 0 listed; an unlisted
address reads 0 (R182). -/
abbrev Memory := List Host.Cell

/-! ## Station, straps, profile store -/

/-- The station modes (R178). -/
inductive Mode where
  | starting | listening | ready | safe
deriving DecidableEq, Repr

/-- The straps as latched (R179 step 1): station number, role, line rate in kbit/s. -/
structure Straps where
  station : Nat
  role    : Role
  rate    : Nat
deriving DecidableEq, Repr

/-- A band: height in cm, area in dm² (R1). -/
structure Band where
  height : Nat
  area   : Nat
deriving DecidableEq, Repr

/-- The conditioning of one discrete input (R161): polarity INVERTED or NORMAL, debounce in ms. -/
structure InputProfile where
  inverted : Bool
  debounce : Nat
deriving DecidableEq, Repr

/-- A station table entry (12.3). -/
structure StationEntry where
  number     : Nat
  role       : Role
  brow       : Nat
  sensor     : Bool
  mountDepth : Nat
  maxRange   : Nat
  inputs     : List InputProfile
deriving DecidableEq, Repr

/-- The profile in force (R180, 12.3), every value after its clamp. Times are in the units of 12.3. -/
structure Profile where
  issue               : Nat
  bands               : List Band
  density             : Nat
  stations            : List StationEntry
  classVolumes        : List Nat
  offerTimeout        : Nat
  settleTime          : Nat
  renewalWindow       : Nat
  warningTime         : Nat
  strokeLimit         : Nat
  returnLimit         : Nat
  wetRest             : Nat
  starvationWindow    : Nat
  surfaceInterval     : Nat
  statePeriod         : Nat
  wetDrawLimit        : Nat
  reportQuantum       : Nat
  weigherQuantum      : Nat
  starvationThreshold : Nat
  cushion             : Nat
  drawZone            : Nat
  headroom            : Nat
  tTol                : Nat
  tHang               : Nat
  qMin                : Nat
  digest              : Nat
deriving DecidableEq, Repr

/-- Why a stored image is INVALID (R180), in the order of the checks. -/
inductive ProfileReason where
  | storeCheck | geometry | stationTable | limitDepth | thresholds
deriving DecidableEq, Repr

/-- The profile result (R180). -/
inductive ProfileResult where
  | valid
  | validClamped (count : Nat)
  | invalid (reason : ProfileReason)
deriving DecidableEq, Repr

/-- The store write state (R183). -/
inductive WriteState where
  | idle | writing | done | failed
deriving DecidableEq, Repr

/-- The profile store: the image, whether a write to it was cut short, the count generation in its own cell,
and the write state (R179, R183). -/
structure Store where
  image      : Memory
  torn       : Bool
  generation : Nat
  write      : WriteState
deriving DecidableEq, Repr

/-! ## Column model and watch unit -/

/-- A segment of the column (R16). Volumes are in dL. -/
structure Segment where
  volume       : Nat
  moisture     : Moisture
  origin       : Option Nat
  oversize     : Bool
  estimated    : Bool
  unauthorised : Bool
deriving DecidableEq, Repr

/-- The quality of a surface reading: 1 to 15, or MANUAL (R20). -/
inductive Quality where
  | numeric (q : Nat)
  | manual
deriving DecidableEq, Repr

/-- What became of a surface reading (R20). -/
inductive Disposition where
  | seeded | reAnchored | held
deriving DecidableEq, Repr

/-- The last surface reading (R20). -/
structure Reading where
  depth       : Nat
  quality     : Quality
  sender      : Nat
  time        : Nat
  disposition : Disposition
deriving DecidableEq, Repr

/-- The reasons of a MODEL event (R20). -/
inductive ModelReason where
  | seeded | overfull | underrun | drift | dribble
deriving DecidableEq, Repr

/-- The column model (R17, R18, R20, R10). Segments stand bottom to top. -/
structure Column where
  seeded         : Bool
  segments       : List Segment
  remainder      : Nat
  spillVolume    : Nat
  spillCount     : Nat
  underrunVolume : Nat
  underrunCount  : Nat
  driftCount     : Nat
  mergeCount     : Nat
  lastReading    : Option Reading
  lastReason     : Option ModelReason
deriving DecidableEq, Repr

/-- The wet status (R15). -/
inductive WetStatus where
  | clear | restricted | refused
deriving DecidableEq, Repr

/-- The last gap estimate (R40): signed dL, cm, station time. -/
structure GapEstimate where
  gap     : Int
  surface : Nat
  time    : Nat
deriving DecidableEq, Repr

/-- A starvation window (R48): its timer and the mass counted in it. -/
structure Window where
  timer : Timer
  count : Nat
deriving DecidableEq, Repr

/-- The watch unit (R40). -/
structure Watch where
  wet     : WetStatus
  gap     : Option GapEstimate
  windows : PerGate Window
  wetRest : Timer
deriving DecidableEq, Repr

/-! ## Holds and reservations -/

/-- A set of HALT causes (R56). -/
structure Causes where
  operator  : Bool
  restart   : Bool
  stopLoop  : Bool
  gateFault : Bool
  duplicate : Bool
deriving DecidableEq, Repr

/-- The hold kinds (R56). -/
inductive HoldKind where
  | halt | entry | hangup
deriving DecidableEq, Repr

/-- What a hold entry carries beside holder and since, by kind and source (R56). -/
inductive HoldBody where
  | halt (causes : Causes)
  | entry
  | ranging (gap : Int) (surface : Nat)
  | starved (gate : Gate)
deriving DecidableEq, Repr

/-- A hold entry (R56). -/
structure Hold where
  holder : Nat
  since  : Nat
  body   : HoldBody
deriving DecidableEq, Repr

/-- A reservation (R89). -/
structure Reservation where
  station : Nat
  cls     : Nat
  volume  : Nat
  arrival : Nat
deriving DecidableEq, Repr

/-! ## Tip sequencer -/

/-- The load of the tip in hand (R75). -/
structure Load where
  cls          : Nat
  volume       : Nat
  moisture     : Moisture
  oversize     : Bool
  estimated    : Bool
  unauthorised : Bool
deriving DecidableEq, Repr

/-- The tip state with its pending load, which is present in every state but IDLE (R75). -/
inductive TipStage where
  | idle
  | requested (load : Load)
  | offered (load : Load)
  | tipping (load : Load)
  | settling (load : Load)
deriving DecidableEq, Repr

/-- The withdrawal causes (R79), with NO-ROOM, which a WITHDRAW frame alone carries (R78). -/
inductive WithdrawCause where
  | cancel | timeout | hold | breaker | room | line | noRoom
deriving DecidableEq, Repr

/-- How a tip ended (R75). -/
inductive Outcome where
  | tipped
  | noRoom
  | withdrawn (cause : WithdrawCause)
deriving DecidableEq, Repr

/-- The last tip outcome record (R75). -/
structure TipOutcome where
  outcome : Outcome
  load    : Load
  time    : Nat
deriving DecidableEq, Repr

/-- The tip sequencer (R75). -/
structure Tip where
  stage       : TipStage
  offerTimer  : Timer
  settleTimer : Timer
  cumulative  : Nat
  lastOutcome : Option TipOutcome
deriving DecidableEq, Repr

/-! ## Breaker sequencer -/

/-- Why a breaker is in FAULT (R94). -/
inductive BreakerFault where
  | notParked | parkLost
deriving DecidableEq, Repr

/-- The breaker state; the last valid token stands in WORKING only, the fault cause in FAULT only (R94). -/
inductive BreakerState where
  | parked
  | working (token : Bool)
  | returning
  | fault (cause : BreakerFault)
deriving DecidableEq, Repr

/-- How granted work ended (R94). -/
inductive WorkEnd where
  | stop | renewalLapse | hold | stopLoop
deriving DecidableEq, Repr

/-- The breaker sequencer (R94). -/
structure Breaker where
  state     : BreakerState
  renewal   : Timer
  returning : Timer
  lastEnd   : Option (WorkEnd × Nat)
deriving DecidableEq, Repr

/-! ## Gate sequencers -/

/-- Why a gate is in FAULT (R105). -/
inductive GateFault where
  | strokeTimeout | limitConflict | gateDrift | loopOpen
deriving DecidableEq, Repr

/-- The gate states; the fault cause stands in FAULT only (R105). -/
inductive GateState where
  | closed | warning | opening | opened | closing
  | fault (cause : GateFault)
deriving DecidableEq, Repr

/-- The draw mode, with the target of a BATCH draw (R105). -/
inductive DrawMode where
  | held
  | batch (target : Nat)
deriving DecidableEq, Repr

/-- The draw end causes (R111). -/
inductive EndCause where
  | stop | renewalLapse | hold | receiverLost | cushion | wetLimit | batchDone | starved | stopLoop
deriving DecidableEq, Repr

/-- The last draw record (R105). The outcome is absent while the draw is in hand: `some true` is CLOSED,
`some false` is FAULT, with the station time. -/
structure DrawRecord where
  mode          : DrawMode
  mass          : Nat
  endCause      : Option EndCause
  wetRestricted : Bool
  outcome       : Option (Bool × Nat)
deriving DecidableEq, Repr

/-- A dribble period: open or closed, and whether its MODEL event has been raised (R105, R124). -/
structure DribblePeriod where
  isOpen : Bool
  raised : Bool
deriving DecidableEq, Repr

/-- One gate sequencer (R105). -/
structure GateSeq where
  state   : GateState
  mode    : Option DrawMode
  wetCap  : Option Nat
  mass    : Nat
  token   : Option Bool
  renewal : Timer
  warning : Timer
  stroke  : Timer
  dribble : DribblePeriod
  record  : Option DrawRecord
deriving DecidableEq, Repr

/-- What the two sequencers share (R105, R125): own cumulative drawn mass, reported mass, dribble memory. -/
structure DrawTotals where
  cumulative : Nat
  reported   : Nat
  dribble    : Bool
deriving DecidableEq, Repr

/-! ## Line controller -/

/-- The line states (R132). -/
inductive LineState where
  | offline | active | isolated
deriving DecidableEq, Repr

/-- The defined frame kinds (12.1). -/
inductive FrameKind where
  | holdSet | holdLift | offer | withdraw | tipped | drawn | surface | state
deriving DecidableEq, Repr

/-- The content of a frame of this station (12.1). A STATE frame has none until an attempt begins (R69). -/
inductive Frame where
  | holdSet (body : HoldBody)
  | holdLift (kind : HoldKind)
  | offer (cls volume : Nat) (moisture : Moisture)
  | withdraw (cause : WithdrawCause)
  | tipped (load : Load) (generation cumulative : Nat)
  | drawn (generation cumulative : Nat) (openA openB dribble : Bool)
  | surface (depth : Nat) (quality : Quality)
  | state (formed : Option StatePayload)
deriving DecidableEq, Repr

/-- A frame in the transmit queue (R132, R133). Its age is its place: the queue stands oldest first. -/
structure QueuedFrame where
  frame    : Frame
  attempts : Nat
  started  : Bool
  onWire   : Bool
deriving DecidableEq, Repr

/-- The last line reason (R132). -/
inductive LineReason where
  | isolated | active | duplicate | stranger
deriving DecidableEq, Repr

/-- The counters of the line controller (R132). -/
structure LineCounters where
  sent              : Nat
  arbitrationLosses : Nat
  transmitErrors    : Nat
  discards          : Nat
  drops             : Nat
  received          : Nat
  crcErrors         : Nat
  lengthErrors      : Nat
  truncations       : Nat
  ownNumber         : Nat
  strangers         : Nat
  unknownKinds      : Nat
deriving DecidableEq, Repr

/-- The line controller (R132). `wire` holds the bytes of the frame on the wire. -/
structure Line where
  state            : LineState
  queue            : List QueuedFrame
  waiting          : List Frame
  wire             : Option (List Byte)
  nextSeq          : Nat
  consecutive      : Nat
  retryTimer       : Timer
  retryDue         : Bool
  strangerReported : Bool
  lastReason       : Option LineReason
  counters         : LineCounters
deriving DecidableEq, Repr

/-! ## Peer table -/

/-- The presence states (R146). -/
inductive Presence where
  | unheard | present | silent
deriving DecidableEq, Repr

/-- A baseline, present or absent as a whole: generation and the counter that suits the role (R146). -/
structure Baseline where
  generation : Nat
  counter    : Nat
deriving DecidableEq, Repr

/-- The last draw report of the DRAW peer (R146). -/
structure DrawReport where
  openA   : Bool
  openB   : Bool
  dribble : Bool
deriving DecidableEq, Repr

/-- A peer record (R146). -/
structure PeerRecord where
  station     : Nat
  role        : Option Role
  presence    : Presence
  lastSeq     : Option Nat
  gapCount    : Nat
  silence     : Timer
  lastArrival : Option Nat
  lastState   : Option (StatePayload × Nat)
  mismatch    : Bool
  lastDraw    : Option DrawReport
  baseline    : Option Baseline
deriving DecidableEq, Repr

/-- The peer table with the roll-call timer and the STATE timer (R146, R151, R153). -/
structure PeerTable where
  records    : List PeerRecord
  rollCall   : Timer
  stateTimer : Timer
deriving DecidableEq, Repr

/-! ## Field terminal -/

/-- One discrete input: raw level (energised), conditioned state (active), absent until first conditioned, and
whether the first conditioned state was forced (R161, R162, R170). -/
structure InputState where
  raw         : Bool
  conditioned : Option Bool
  forced      : Bool
deriving DecidableEq, Repr

/-- Why a ranging record was rejected (R165). -/
inductive RejectReason where
  | none | quality | range
deriving DecidableEq, Repr

/-- The last raw reading (R165). -/
structure RawReading where
  distance : Nat
  quality  : Nat
  time     : Nat
  reason   : RejectReason
deriving DecidableEq, Repr

/-- The last accepted reading (R166). -/
structure AcceptedReading where
  depth   : Nat
  quality : Nat
  time    : Nat
deriving DecidableEq, Repr

/-- The field terminal (R160 to R167). -/
structure Field where
  inputs          : Vector InputState 12
  pulses          : PerGate Nat
  lastRaw         : Option RawReading
  lastAccepted    : Option AcceptedReading
  pendingReading  : Option (Nat × Nat)
  pacing          : Timer
  malformed       : Nat
  ignored         : Nat
  rejectedQuality : Nat
  rejectedRange   : Nat
deriving DecidableEq, Repr

/-! ## Panel port -/

/-- The twelve event kinds, in the order of R174. -/
inductive EventKind where
  | restart | holdChange | peerChange | tipOutcome | drawEnd | breakerChange
  | hangup | wetChange | model | line | fault | profile
deriving DecidableEq, Repr

/-- The refusal causes, in the order of their codes 1 to 23 (R187). -/
inductive RefusalCause where
  | notReady | wrongRole | halted | entryHeld | hangupHeld | noRoom | noCushion | wetColumn | wetRest
  | peerSilent | isolated | modelUnseeded | breakerOut | tipActive | receiverNotReady | gateFault | notHeld
  | causePresent | staleToken | notActive | badRequest | profileInvalid | windowClosed
deriving DecidableEq, Repr

/-- The head of a COLUMN report (R176). -/
structure ColumnHead where
  seeded  : Bool
  volume  : Nat
  surface : Nat
  zone    : Nat
  wet     : Nat
  records : Column
deriving DecidableEq, Repr

/-- A snapshot of one collection (R176). A PEERS entry keeps the time since the last arrival (R158). -/
inductive Snapshot where
  | column (head : ColumnHead) (segments : List Segment)
  | holds (entries : List Hold)
  | peers (entries : List (PeerRecord × Option Nat))
  | reservations (entries : List Reservation)
deriving DecidableEq, Repr

/-- The report buffer: the snapshot and the number of the next part to give (R176, R177). -/
structure ReportBuffer where
  snapshot : Snapshot
  next     : Nat
deriving DecidableEq, Repr

/-- One item of a STATUS answer (R187): block, item, index and value. -/
structure StatusItem where
  block : Nat
  item  : Nat
  index : Nat
  value : List Byte
deriving DecidableEq, Repr

/-- The body of an answer (R171, R187). -/
inductive AnswerBody where
  | accepted
  | acceptedCauses (remaining : Causes)
  | acceptedEvents (remaining : BitVec 12)
  | refused (cause : RefusalCause)
  | refusedCauses (causes : Causes)
  | refusedProfile (reason : ProfileReason)
  | busy
  | status (items : List StatusItem)
  | events (pending enabled : BitVec 12)
  | part (snapshot : Snapshot) (number parts : Nat)
  | endOfReport (snapshot : Snapshot) (parts : Nat)
deriving DecidableEq, Repr

/-- An answer: the code of the request it answers, and its body (R187). -/
structure Answer where
  request : Nat
  body    : AnswerBody
deriving DecidableEq, Repr

/-- The panel port (R171 to R184). -/
structure Port where
  pendingEvents  : BitVec 12
  enabledEvents  : BitVec 12
  malformed      : Nat
  report         : Option ReportBuffer
  buffer         : Memory
  answer         : Option Answer
  restartPending : Bool
  window         : Bool
deriving DecidableEq, Repr

/-! ## The station -/

/-- The whole station, with the queue of commands that wait, first in, first out, and the count of open values
read so far (notes/assumptions/33.md). -/
structure State where
  pending       : List Instr
  openReads     : Nat
  time          : Nat
  mode          : Mode
  blocksStarted : Bool
  restartCauses : Causes
  pins          : StrapPins
  straps        : Straps
  store         : Store
  profile       : Option Profile
  profileResult : ProfileResult
  column        : Column
  watch         : Watch
  holds         : List Hold
  reservations  : List Reservation
  tip           : Tip
  breaker       : Breaker
  gates         : PerGate GateSeq
  drawn         : DrawTotals
  line          : Line
  peers         : PeerTable
  field         : Field
  port          : Port
deriving DecidableEq, Repr

/-- Why a command stops the machine. No command of this part does: the type has no constructor. -/
inductive Fault where
deriving DecidableEq, Repr

/-- Why a command has no meaning in the model. -/
inductive Refusal where
  /-- Raised by an arm of `exec` whose command has no meaning yet; safe. No arm raises it. -/
  | notModelled (mnemonic : String)
deriving DecidableEq, Repr

/-! ## Restart values of the blocks -/

/-- No HALT cause. -/
def Causes.none : Causes := ⟨false, false, false, false, false⟩

/-- The column model after a COLD restart (R38). -/
def Column.cold : Column := ⟨false, [], 0, 0, 0, 0, 0, 0, 0, none, none⟩

/-- A starvation window that is stopped (R40). -/
def Window.stopped : Window := ⟨Timer.stopped, 0⟩

/-- The watch unit after a restart (R40). -/
def Watch.restarted : Watch := ⟨.clear, none, ⟨Window.stopped, Window.stopped⟩, Timer.stopped⟩

/-- The tip sequencer after a restart that leaves this cumulative volume (R75). -/
def Tip.restarted (cumulative : Nat) : Tip := ⟨.idle, Timer.stopped, Timer.stopped, cumulative, none⟩

/-- The breaker sequencer with its park input in this state as it takes its restart state (R94). -/
def Breaker.restarted (parked : Bool) : Breaker :=
  ⟨if parked then .parked else .fault .notParked, Timer.stopped, Timer.stopped, none⟩

/-- A gate sequencer with its limit inputs in this state as it takes its restart state (R105). -/
def GateSeq.restarted (closedLimit openLimit : Bool) : GateSeq :=
  { state := if openLimit then (if closedLimit then .fault .limitConflict else .fault .gateDrift)
             else if closedLimit then .closed else .fault .gateDrift
    mode := none, wetCap := none, mass := 0, token := none
    renewal := Timer.stopped, warning := Timer.stopped, stroke := Timer.stopped
    dribble := ⟨true, false⟩, record := none }

/-- All counters of the line controller at 0 (R132). -/
def LineCounters.zero : LineCounters := ⟨0, 0, 0, 0, 0, 0, 0, 0, 0, 0, 0, 0⟩

/-- The line controller after a restart (R132). -/
def Line.restarted : Line :=
  ⟨.offline, [], [], none, 0, 0, Timer.stopped, false, false, none, LineCounters.zero⟩

/-- A peer record after a restart that keeps this baseline (R146). -/
def PeerRecord.restarted (station : Nat) (role : Option Role) (baseline : Option Baseline) : PeerRecord :=
  ⟨station, role, .unheard, none, 0, Timer.stopped, none, none, false, none, baseline⟩

/-- The peer table of a station that starts in SAFE: the numbers 1 to 8 but its own, no role (R146). -/
def PeerTable.safe (own : Nat) : PeerTable :=
  ⟨([1, 2, 3, 4, 5, 6, 7, 8].filter (· != own)).map (fun n => PeerRecord.restarted n none none),
   Timer.stopped, Timer.stopped⟩

/-- The field terminal after a restart, the raw levels standing as they are (R162, R164 to R167). -/
def Field.restarted (raw : Vector Bool 12) : Field :=
  { inputs := raw.map (fun r => ⟨r, none, false⟩), pulses := ⟨0, 0⟩
    lastRaw := none, lastAccepted := none, pendingReading := none, pacing := Timer.stopped
    malformed := 0, ignored := 0, rejectedQuality := 0, rejectedRange := 0 }

/-- The panel port at the start of STARTING: RESTART alone pending, every kind enabled, buffers empty, window
open (R174, R177, R179 step 5, R182). -/
def Port.restarted : Port := ⟨1#12, BitVec.allOnes 12, 0, none, [], none, false, true⟩

/-- The machine right after reset: at the start of STARTING after the power-on COLD restart (R179). The straps,
the raw inputs, the stored image and the count generation stand as no rule gives them: DESIGN CHOICE, unsafe
(notes/assumptions/9.md). An image of zeros fails check 1 of R180, so no profile is in force. -/
def State.reset : State :=
  { pending := [], openReads := 0, time := 0, mode := .starting, blocksStarted := false
    restartCauses := { Causes.none with restart := true }
    pins := ⟨false, false, false, false, false, false⟩
    straps := ⟨1, .tip, 10⟩
    store := ⟨[], false, 0, .idle⟩
    profile := none
    profileResult := .invalid .storeCheck
    column := Column.cold
    watch := Watch.restarted
    holds := []
    reservations := []
    tip := Tip.restarted 0
    breaker := Breaker.restarted false
    gates := ⟨GateSeq.restarted false false, GateSeq.restarted false false⟩
    drawn := ⟨0, 0, false⟩
    line := Line.restarted
    peers := PeerTable.safe 1
    field := Field.restarted (Vector.replicate 12 false)
    port := Port.restarted }

end Sys2Proof.Machine
end

