-- ==== Sys2Proof/Machine/Setters.lean ====
section
/-! DEFINITION. One update per block of the state; every operation changes the state through these. -/

namespace Sys2Proof.Machine

def State.setColumnRecord (c : Column) (s : State) : State := { s with column := c }
def State.setWatch (w : Watch) (s : State) : State := { s with watch := w }
def State.setHolds (l : List Hold) (s : State) : State := { s with holds := l }
def State.setReservations (l : List Reservation) (s : State) : State := { s with reservations := l }
def State.setTip (t : Tip) (s : State) : State := { s with tip := t }
def State.setBreaker (b : Breaker) (s : State) : State := { s with breaker := b }
def State.setGates (g : PerGate GateSeq) (s : State) : State := { s with gates := g }
def State.setDrawn (d : DrawTotals) (s : State) : State := { s with drawn := d }
def State.setLine (l : Line) (s : State) : State := { s with line := l }
def State.setPeers (p : PeerTable) (s : State) : State := { s with peers := p }
def State.setField (f : Field) (s : State) : State := { s with field := f }
def State.setPort (p : Port) (s : State) : State := { s with port := p }
def State.setStore (t : Store) (s : State) : State := { s with store := t }
def State.setMode (m : Mode) (s : State) : State := { s with mode := m }
def State.setRestartCauses (c : Causes) (s : State) : State := { s with restartCauses := c }
def State.setBlocksStarted (b : Bool) (s : State) : State := { s with blocksStarted := b }
def State.setTime (t : Nat) (s : State) : State := { s with time := t }
def State.setPending (l : List Instr) (s : State) : State := { s with pending := l }
def State.setOpenReads (n : Nat) (s : State) : State := { s with openReads := n }

end Sys2Proof.Machine
end

