-- ==== Sys2Proof/Machine/Flags.lean ====
section
/-! DEFINITION. The flags: the event summary and the attention line (R174, R175), sets of HALT causes (R56),
saturating counters (scope, Counters), and timers. -/

namespace Sys2Proof.Machine

/-- The bit of an event kind, in the order of R174 (12.2). -/
def EventKind.bit : EventKind → Nat
  | .restart => 0 | .holdChange => 1 | .peerChange => 2 | .tipOutcome => 3 | .drawEnd => 4
  | .breakerChange => 5 | .hangup => 6 | .wetChange => 7 | .model => 8 | .line => 9 | .fault => 10
  | .profile => 11

/-- The set of one kind. -/
def EventKind.flag (k : EventKind) : BitVec 12 := 1#12 <<< k.bit

/-- The kind is pending. -/
def State.isPending (k : EventKind) (s : State) : Bool := s.port.pendingEvents.getLsbD k.bit

/-- A block marks a kind by setting its pending flag; a kind already pending stays pending (R174). -/
def State.mark (k : EventKind) (s : State) : State :=
  s.setPort { s.port with pendingEvents := s.port.pendingEvents ||| k.flag }

/-- The attention line: a kind is both pending and enabled (R174). -/
def State.attention (s : State) : Bool := s.port.pendingEvents &&& s.port.enabledEvents != 0#12

/-- The union of two sets of causes. -/
def Causes.union (c d : Causes) : Causes :=
  ⟨c.operator || d.operator, c.restart || d.restart, c.stopLoop || d.stopLoop, c.gateFault || d.gateFault,
   c.duplicate || d.duplicate⟩

/-- The causes of one set that are not in the other. -/
def Causes.minus (c d : Causes) : Causes :=
  ⟨c.operator && !d.operator, c.restart && !d.restart, c.stopLoop && !d.stopLoop,
   c.gateFault && !d.gateFault, c.duplicate && !d.duplicate⟩

/-- The causes common to two sets. -/
def Causes.inter (c d : Causes) : Causes :=
  ⟨c.operator && d.operator, c.restart && d.restart, c.stopLoop && d.stopLoop,
   c.gateFault && d.gateFault, c.duplicate && d.duplicate⟩

/-- The sets of one cause. -/
def Causes.ofOperator : Causes := { Causes.none with operator := true }
def Causes.ofRestart : Causes := { Causes.none with restart := true }
def Causes.ofStopLoop : Causes := { Causes.none with stopLoop := true }
def Causes.ofGateFault : Causes := { Causes.none with gateFault := true }
def Causes.ofDuplicate : Causes := { Causes.none with duplicate := true }

/-- A counter that saturates at 65,535, advanced by one. -/
def bump16 (n : Nat) : Nat := min (n + 1) Config.max16

/-- A counter that saturates at 4,294,967,295, advanced by an amount. -/
def add32 (n amount : Nat) : Nat := min (n + amount) Config.max32

/-- A timer started with a time in ms. -/
def Timer.start (ms : Nat) : Timer := ⟨true, ms⟩

/-- A timer set to a time and not running (R86). -/
def Timer.hold (ms : Nat) : Timer := ⟨false, ms⟩

/-- One millisecond passes. -/
def Timer.tick (t : Timer) : Timer := if t.running then { t with left := t.left - 1 } else t

/-- A running timer with no time left has its expiry to take. -/
def Timer.due (t : Timer) : Bool := t.running && t.left == 0

/-- The item of a gate. -/
def PerGate.get (g : Gate) (p : PerGate α) : α :=
  match g with
  | .a => p.a
  | .b => p.b

/-- The pair with a gate's item changed. -/
def PerGate.modify (g : Gate) (f : α → α) (p : PerGate α) : PerGate α :=
  match g with
  | .a => { p with a := f p.a }
  | .b => { p with b := f p.b }

end Sys2Proof.Machine
end

