-- ==== Sys2Proof/Machine/Geometry.lean ====
section
/-! DEFINITION. The geometry unit: pass geometry and volume arithmetic (R1 to R15). It holds no state. -/

namespace Sys2Proof.Machine

/-- C_b, the capacity of a band (R3). -/
def Band.capacity (b : Band) : Nat := b.area * b.height

/-- D_c, the chute depth (R1). -/
def chuteDepth (bands : List Band) : Nat := (bands.map Band.height).sum

/-- The pass capacity K_n (R3). -/
def passCapacity (bands : List Band) : Nat := (bands.map Band.capacity).sum

/-- K_b, the cumulative capacity of bands 1 to b (R3). -/
def cumulativeCapacity (bands : List Band) (b : Nat) : Nat := passCapacity (bands.take b)

/-- The top depth of band b, counted from 1, and the bottom depth of band b + 1 (R1). -/
def topDepth (bands : List Band) (b : Nat) : Nat := chuteDepth bands - chuteDepth (bands.take b)

/-- The band, counted from 1 upward, in which a depth lies; a boundary lies in the deeper band, and the chute
depth in none (R1). `bottom` is the bottom depth of the first band given. -/
def bandFrom : List Band → Nat → Nat → Nat → Option Nat
  | [], _, _, _ => none
  | b :: bs, number, bottom, x =>
    if x < bottom ∧ bottom - b.height ≤ x then some number
    else bandFrom bs (number + 1) (bottom - b.height) x

/-- The band in which a depth lies (R1). -/
def bandOf (bands : List Band) (x : Nat) : Option Nat := bandFrom bands 1 (chuteDepth bands) x

/-- The volume below a height above the lip (R4): bands whole while the height covers them, then a part. -/
def volumeUnder : List Band → Nat → Nat
  | [], _ => 0
  | b :: bs, h => if b.height ≤ h then b.capacity + volumeUnder bs (h - b.height) else b.area * h

/-- Vb(x), the volume of pass below a depth, the depth clamped to D_c (R4). -/
def volumeBelow (bands : List Band) (x : Nat) : Nat :=
  volumeUnder bands (chuteDepth bands - min x (chuteDepth bands))

/-- The height of the surface above the lip for a volume: full bands, then the part rounded up (R5). -/
def surfaceHeight : List Band → Nat → Nat
  | [], _ => 0
  | b :: bs, v =>
    if b.capacity ≤ v then b.height + surfaceHeight bs (v - b.capacity) else (v + b.area - 1) / b.area

/-- S(V), the surface depth of a volume, the volume clamped to the pass capacity (R5). -/
def surfaceDepth (bands : List Band) (v : Nat) : Nat :=
  chuteDepth bands - surfaceHeight bands (min v (passCapacity bands))

/-- V_col, the sum of the segment volumes (R17). -/
def totalVolume (segments : List Segment) : Nat := (segments.map Segment.volume).sum

/-- Room below a limit depth, less the column and the reservations that count, and 0 when negative (R7). -/
def roomBelow (bands : List Band) (limit column reserved : Nat) : Nat :=
  volumeBelow bands limit - column - reserved

/-- The drawn volume and the new remainder for a mass increment (R9). -/
def drawnVolume (density remainder mass : Nat) : Nat × Nat :=
  ((mass * 10000 + remainder) / density, (mass * 10000 + remainder) % density)

/-- The split of a tip against the free volume: what is added, what is spill (R11). -/
def splitTip (capacity column volume : Nat) : Nat × Nat :=
  (min volume (capacity - column), volume - (capacity - column))

/-- Δ, positive when the reading stands above the model surface (R13). -/
def discrepancy (modelSurface reading : Nat) : Int := (modelSurface : Int) - (reading : Int)

/-- WET and UNKNOWN count as wet (R14, R16). -/
def Moisture.countsWet : Moisture → Bool
  | .wet | .unknown => true
  | .dry | .damp => false

/-- The wet volume within the bottom `zone` dL of the segments (R14). -/
def wetWithin : List Segment → Nat → Nat
  | [], _ => 0
  | g :: gs, zone =>
    (if g.moisture.countsWet then min g.volume zone else 0) + wetWithin gs (zone - g.volume)

/-- Z, the zone volume (R14). -/
def zoneVolume (drawZone : Nat) (segments : List Segment) : Nat := min drawZone (totalVolume segments)

/-- w_z, the wet volume in the zone (R14). -/
def wetVolume (drawZone : Nat) (segments : List Segment) : Nat :=
  wetWithin segments (zoneVolume drawZone segments)

/-- The wet status of Z and w_z (R15). -/
def wetStatus (zone wet : Nat) : WetStatus :=
  if wet = 0 then .clear else if 2 * wet < zone then .restricted else .refused

end Sys2Proof.Machine
end

