-- ==== Sys2Proof/Machine/Operands.lean ====
section
/-! DEFINITION. The operand forms: what the codes of frames and messages stand for, and the codes themselves
(R185 to R187, 12.1, 12.2). -/

namespace Sys2Proof.Machine

/-! ## Reading codes -/

/-- A gate byte: 1 A, 2 B (12.2). -/
def gateOf (b : Byte) : Option Gate :=
  if b.toNat = 1 then some .a else if b.toNat = 2 then some .b else none

/-- A token byte: 0 or 1 (R98, R118). -/
def tokenOf (b : Byte) : Option Bool :=
  if b.toNat = 0 then some false else if b.toNat = 1 then some true else none

/-- A moisture byte, 1 to 4 (12.1). -/
def moistureOf (b : Byte) : Option Moisture :=
  if b.toNat = 1 then some .dry else if b.toNat = 2 then some .damp
  else if b.toNat = 3 then some .wet else if b.toNat = 4 then some .unknown else none

/-- A received moisture outside 1 to 4 is taken as UNKNOWN (R186). -/
def moistureRead (b : Byte) : Moisture := (moistureOf b).getD .unknown

/-- The HALT causes of a byte; bits outside the defined set are set aside (R186). -/
def causesOf (b : Byte) : Causes :=
  ⟨b.getLsbD 0, b.getLsbD 1, b.getLsbD 2, b.getLsbD 3, b.getLsbD 4⟩

/-- No cause in the set. -/
def Causes.isEmpty (c : Causes) : Bool :=
  !(c.operator || c.restart || c.stopLoop || c.gateFault || c.duplicate)

/-- A hold kind code (12.1). -/
def holdKindOf (b : Byte) : Option HoldKind :=
  if b.toNat = 1 then some .halt else if b.toNat = 2 then some .entry
  else if b.toNat = 3 then some .hangup else none

/-- What a HOLD-SET payload says, where it is one the hold list takes: the kind one of the three, the length
suited to it, a HALT with a cause, a HANGUP with a source and the fields of that source (R66, R186, 12.1). -/
def holdBodyOf : HoldSetPayload → Option HoldBody
  | .len1 kind => if kind.toNat = 2 then some .entry else none
  | .len2 kind causes =>
    if kind.toNat = 1 ∧ (causesOf causes).isEmpty = false then some (.halt (causesOf causes)) else none
  | .len3 kind source gate =>
    if kind.toNat = 3 ∧ source.toNat = 2 then (gateOf gate).map HoldBody.starved else none
  | .len8 kind source gap surface =>
    if kind.toNat = 3 ∧ source.toNat = 1 then some (.ranging gap.toInt surface.toNat) else none

/-- A class and volume that an OFFER or an open reservation may carry (R90, R91). -/
def loadInRange (cls volume : Nat) : Bool :=
  decide (1 ≤ cls) && decide (cls ≤ 6) && decide (1000 ≤ volume) && decide (volume ≤ 600000)

/-- A SURFACE quality: 1 to 15 or MANUAL; any other value is not taken by the model (R186). -/
def qualityOf (b : Byte) : Option Quality :=
  if b.toNat = 0x80 then some .manual
  else if 1 ≤ b.toNat ∧ b.toNat ≤ 15 then some (.numeric b.toNat) else none

/-- The own HALT a STATE frame lists; an empty set of causes is taken as not listed (R68). -/
def stateHaltBody (p : StatePayload) : Option HoldBody :=
  if (causesOf p.haltCauses).isEmpty then none else some (.halt (causesOf p.haltCauses))

/-- The own ENTRY a STATE frame lists (12.1). -/
def stateEntryBody (p : StatePayload) : Option HoldBody :=
  if p.entryHeld then some .entry else none

/-- The own HANGUP a STATE frame lists: source 1 RANGING with the gate bit clear, 2 STARVED with no gap volume and no
measured surface; without a source, or with a field of the other source, none is listed (R68, 12.1,
notes/assumptions/37.md). -/
def stateHangupBody (p : StatePayload) : Option HoldBody :=
  if p.hangupSource.toNat = 1 ∧ p.hangupGateB = false then some (.ranging p.gapVolume.toInt p.gapSurface.toNat)
  else if p.hangupSource.toNat = 2 ∧ p.gapVolume = 0#32 ∧ p.gapSurface = 0#16 then
    some (.starved (if p.hangupGateB then .b else .a))
  else none

/-- The open reservation a STATE frame declares; out of range is taken as absent (R91). -/
def stateReservation (p : StatePayload) : Option (Nat × Nat) :=
  if loadInRange p.openClass.toNat p.openVolume.toNat then some (p.openClass.toNat, p.openVolume.toNat)
  else none

/-- The event kinds that a set names; values beyond the twelve kinds are set aside (R175). -/
def kindsOf (set : Word16) : BitVec 12 := set.setWidth 12

/-! ## Writing codes -/

def gateCode : Gate → Nat
  | .a => 1 | .b => 2
def roleCode : Role → Nat
  | .tip => 1 | .draw => 2
def moistureCode : Moisture → Nat
  | .dry => 1 | .damp => 2 | .wet => 3 | .unknown => 4
def holdKindCode : HoldKind → Nat
  | .halt => 1 | .entry => 2 | .hangup => 3
def withdrawCode : WithdrawCause → Nat
  | .cancel => 1 | .timeout => 2 | .hold => 3 | .breaker => 4 | .room => 5 | .line => 6 | .noRoom => 7
/-- The withdrawal cause with this place in the list of 12.1. -/
def causeAt (i : Fin 7) : WithdrawCause :=
  if i.val = 0 then .cancel else if i.val = 1 then .timeout else if i.val = 2 then .hold
  else if i.val = 3 then .breaker else if i.val = 4 then .room else if i.val = 5 then .line else .noRoom
def qualityCode : Quality → Nat
  | .numeric q => q | .manual => 0x80

/-- A set of yes and no as the bits of a number, the first the least. -/
def bitSet : List Bool → Nat
  | [] => 0
  | b :: bs => (if b then 1 else 0) + 2 * bitSet bs

/-- The causes byte (12.1). -/
def causesCode (c : Causes) : Nat := bitSet [c.operator, c.restart, c.stopLoop, c.gateFault, c.duplicate]

/-- The TIPPED flags, which report segments use too (12.1, 12.2). -/
def flagsCode (oversize estimated unauthorised : Bool) : Nat := bitSet [oversize, estimated, unauthorised]

/-- Mode codes; STARTING has none in a frame, and STATUS shows it as 4 (DESIGN CHOICE, notes/assumptions/18.md). -/
def modeCode : Mode → Nat
  | .listening => 1 | .ready => 2 | .safe => 3 | .starting => 4
/-- Line state codes; OFFLINE has none in a frame, and STATUS shows it as 3 (DESIGN CHOICE, notes/assumptions/18.md). -/
def lineCode : LineState → Nat
  | .active => 1 | .isolated => 2 | .offline => 3
def tipCode : TipStage → Nat
  | .idle => 1 | .requested _ => 2 | .offered _ => 3 | .tipping _ => 4 | .settling _ => 5
def breakerCode : BreakerState → Nat
  | .parked => 1 | .working _ => 2 | .returning => 3 | .fault _ => 4
def gateStateCode : GateState → Nat
  | .closed => 1 | .warning => 2 | .opening => 3 | .opened => 4 | .closing => 5 | .fault _ => 6
def reasonCode : ProfileReason → Nat
  | .storeCheck => 1 | .geometry => 2 | .stationTable => 3 | .limitDepth => 4 | .thresholds => 5
def refusalCode : RefusalCause → Nat
  | .notReady => 1 | .wrongRole => 2 | .halted => 3 | .entryHeld => 4 | .hangupHeld => 5 | .noRoom => 6
  | .noCushion => 7 | .wetColumn => 8 | .wetRest => 9 | .peerSilent => 10 | .isolated => 11
  | .modelUnseeded => 12 | .breakerOut => 13 | .tipActive => 14 | .receiverNotReady => 15 | .gateFault => 16
  | .notHeld => 17 | .causePresent => 18 | .staleToken => 19 | .notActive => 20 | .badRequest => 21
  | .profileInvalid => 22 | .windowClosed => 23

/-- The request codes 1 (TIP) to 24 (RESTART), in the order of the request set of R171 (12.2). -/
def codeTip : Nat := 1
def codeTipCancel : Nat := 2
def codeBreak : Nat := 3
def codeBreakRenew : Nat := 4
def codeBreakStop : Nat := 5
def codeDraw : Nat := 6
def codeDrawRenew : Nat := 7
def codeDrawStop : Nat := 8
def codeGateReset : Nat := 9
def codeHalt : Nat := 10
def codeHaltRelease : Nat := 11
def codeEntry : Nat := 12
def codeEntryRelease : Nat := 13
def codeHangupClear : Nat := 14
def codeSeed : Nat := 15
def codeStatus : Nat := 16
def codeReport : Nat := 17
def codeReportNext : Nat := 18
def codeEvents : Nat := 19
def codeEventAck : Nat := 20
def codeEventEnable : Nat := 21
def codeProfileLoad : Nat := 22
def codeProfileCommit : Nat := 23
def codeRestart : Nat := 24

/-! ## Kinds and classes -/

/-- The kind of a hold entry (R56). -/
def HoldBody.kind : HoldBody → HoldKind
  | .halt _ => .halt
  | .entry => .entry
  | .ranging .. | .starved _ => .hangup

/-- The kind of a frame (12.1). -/
def Frame.kind : Frame → FrameKind
  | .holdSet _ => .holdSet
  | .holdLift _ => .holdLift
  | .offer .. => .offer
  | .withdraw _ => .withdraw
  | .tipped .. => .tipped
  | .drawn .. => .drawn
  | .surface .. => .surface
  | .state _ => .state

/-- The class of a kind: holds 0 (R59); OFFER, WITHDRAW, TIPPED, DRAWN 1 (R77, R79, R87, R125); SURFACE 2
(R167); STATE 3 (R153). -/
def FrameKind.cls : FrameKind → Nat
  | .holdSet | .holdLift => 0
  | .offer | .withdraw | .tipped | .drawn => 1
  | .surface => 2
  | .state => 3

/-- The class of a frame. -/
def Frame.cls (f : Frame) : Nat := f.kind.cls

/-- The kind codes (12.1). -/
def kindCode : FrameKind → Nat
  | .holdSet => 1 | .holdLift => 2 | .offer => 3 | .withdraw => 4
  | .tipped => 5 | .drawn => 6 | .surface => 7 | .state => 8

/-- STATE, DRAWN and SURFACE are coalesced (R134). -/
def FrameKind.coalesces : FrameKind → Bool
  | .state | .drawn | .surface => true
  | .holdSet | .holdLift | .offer | .withdraw | .tipped => false

end Sys2Proof.Machine
end

