-- ==== Sys2Proof/Machine/View.lean ====
section
/-! DEFINITION. What the blocks read: figures, inputs, outputs and list look-ups formed from the state, stored
nowhere apart from it. -/

namespace Sys2Proof.Machine

/-! ## The profile in force -/

/-- The figures read where no profile is in force: none of a pass, and the STATE period of SAFE (R2, R153). -/
def Profile.absent : Profile :=
  { issue := 0, bands := [], density := 0, stations := [], classVolumes := []
    offerTimeout := 0, settleTime := 0, renewalWindow := 0, warningTime := 0, strokeLimit := 0
    returnLimit := 0, wetRest := 0, starvationWindow := 0, surfaceInterval := 0
    statePeriod := Config.safeStatePeriod, wetDrawLimit := 0, reportQuantum := 0, weigherQuantum := 0
    starvationThreshold := 0, cushion := 0, drawZone := 0, headroom := 0, tTol := 0, tHang := 0
    qMin := 0, digest := 0 }

/-- The profile the blocks read. -/
def State.prof (s : State) : Profile := s.profile.getD Profile.absent

/-- This station's number. -/
def State.own (s : State) : Nat := s.straps.station

/-- This station's entry of the station table. -/
def State.ownEntry (s : State) : Option StationEntry := s.prof.stations.find? (·.number == s.own)

/-- The volume of a vehicle class, 1 to 6 (R77). -/
def Profile.classVolume (p : Profile) (cls : Nat) : Nat := p.classVolumes.getD (cls - 1) 0

/-- A time given in seconds, in ms. -/
def seconds (n : Nat) : Nat := n * 1000

/-- The limit depth of a station's level: its brow plus the headroom (R2). -/
def Profile.limitDepth (p : Profile) (station : Nat) : Nat :=
  ((p.stations.find? (·.number == station)).map (·.brow)).getD 0 + p.headroom

/-- D_c of the profile (R1). -/
def Profile.chute (p : Profile) : Nat := chuteDepth p.bands

/-- The pass capacity of the profile (R3). -/
def Profile.capacity (p : Profile) : Nat := passCapacity p.bands

/-! ## Column figures (R18) -/

/-- V_col; 0 when UNSEEDED, whose list is empty. -/
def State.columnVolume (s : State) : Nat := totalVolume s.column.segments

/-- S_m; D_c when UNSEEDED. -/
def State.modelSurface (s : State) : Nat :=
  if s.column.seeded then surfaceDepth s.prof.bands s.columnVolume else s.prof.chute

/-- Z; 0 when UNSEEDED. -/
def State.zone (s : State) : Nat :=
  if s.column.seeded then zoneVolume s.prof.drawZone s.column.segments else 0

/-- w_z; 0 when UNSEEDED. -/
def State.wetZone (s : State) : Nat :=
  if s.column.seeded then wetVolume s.prof.drawZone s.column.segments else 0

/-- The wet status the column now has, which the watch unit evaluates (R15, R51). -/
def State.columnWet (s : State) : WetStatus := wetStatus s.zone s.wetZone

/-! ## Reservations and room -/

/-- The sum of reservation volumes. -/
def reservedVolume (l : List Reservation) : Nat := (l.map Reservation.volume).sum

/-- The entries standing before a station's own; every entry when it has none (R8). -/
def entriesBefore (station : Nat) (l : List Reservation) : List Reservation :=
  l.takeWhile (·.station != station)

/-- A station's entry. -/
def reservationOf (station : Nat) (l : List Reservation) : Option Reservation :=
  l.find? (·.station == station)

/-- Room at a TIP level with these reservations counted (R7). -/
def State.room (station : Nat) (counted : List Reservation) (s : State) : Nat :=
  roomBelow s.prof.bands (s.prof.limitDepth station) s.columnVolume (reservedVolume counted)

/-! ## Holds -/

/-- The entry is the holder's of this kind. -/
def Hold.isOf (holder : Nat) (kind : HoldKind) (h : Hold) : Bool :=
  h.holder == holder && h.body.kind == kind

/-- The holder's entry of a kind. -/
def State.holdOf (holder : Nat) (kind : HoldKind) (s : State) : Option Hold :=
  s.holds.find? (Hold.isOf holder kind)

/-- Any hold of this kind stands. -/
def State.anyHold (kind : HoldKind) (s : State) : Bool := s.holds.any (·.body.kind == kind)

/-- The causes of the own HALT; none when it is not held. -/
def State.ownCauses (s : State) : Causes :=
  match s.holdOf s.own .halt with
  | some ⟨_, _, .halt c⟩ => c
  | _ => Causes.none

/-! ## Inputs (R160 to R163) -/

/-- The function of an input (R160). -/
inductive InputFunction where
  | stopLoop | truckPresent | breakerPark
  | closedLimit (g : Gate) | openLimit (g : Gate) | receiverReady (g : Gate)
  | spare
deriving DecidableEq, Repr

/-- The assignment of R160; IN1 is number 0. -/
def inputFunction (role : Role) (i : InputNo) : InputFunction :=
  match role with
  | .tip =>
    if i.val = 0 then .stopLoop else if i.val = 1 then .truckPresent
    else if i.val = 2 then .breakerPark else .spare
  | .draw =>
    if i.val = 0 then .stopLoop
    else if i.val = 1 then .closedLimit .a else if i.val = 2 then .openLimit .a
    else if i.val = 3 then .receiverReady .a else if i.val = 4 then .closedLimit .b
    else if i.val = 5 then .openLimit .b else if i.val = 6 then .receiverReady .b else .spare

/-- The number of the stop-loop input (R160). -/
def stopLoopInput : InputNo := 0
def truckInput : InputNo := 1
def parkInput : InputNo := 2
/-- The numbers of a gate's inputs at a DRAW station (R160). -/
def closedLimitInput : Gate → InputNo
  | .a => 1 | .b => 4
def openLimitInput : Gate → InputNo
  | .a => 2 | .b => 5
def readyInput : Gate → InputNo
  | .a => 3 | .b => 6

/-- The conditioned state of an input, absent before its first. -/
def State.conditioned (i : InputNo) (s : State) : Option Bool := s.field.inputs[i].conditioned

/-- The conditioned input is active; inactive where it has no conditioned state yet (R162). -/
def State.active (i : InputNo) (s : State) : Bool := s.conditioned i == some true

/-- The stop loop is closed and whole (R160). -/
def State.loopClosed (s : State) : Bool := s.active stopLoopInput

/-- The conditioned stop-loop input is inactive (R169); it is not before its first conditioned state. -/
def State.loopOpen (s : State) : Bool := s.conditioned stopLoopInput == some false

/-- The park input is active. -/
def State.parkActive (s : State) : Bool := s.active parkInput

/-- A gate is proven closed: closed limit active and open limit inactive (R62). -/
def State.provenClosed (g : Gate) (s : State) : Bool :=
  s.active (closedLimitInput g) && !s.active (openLimitInput g)

/-- Both limits of a gate are active (R114). -/
def State.bothLimits (g : Gate) (s : State) : Bool :=
  s.active (closedLimitInput g) && s.active (openLimitInput g)

/-- The conditioning of an input from the profile in force; where none is, polarity NORMAL and a debounce of 20 ms
(R161, R162). -/
def State.conditioning (i : InputNo) (s : State) : InputProfile :=
  (s.ownEntry.bind (fun e => e.inputs[i.val]?)).getD ⟨false, Config.safeDebounce⟩

/-- The polarity of an input is INVERTED (R161). -/
def State.inverted (i : InputNo) (s : State) : Bool := (s.conditioning i).inverted

/-- The state that the raw level of an input reads as, after polarity (R161). -/
def State.rawActive (i : InputNo) (s : State) : Bool := s.field.inputs[i].raw != s.inverted i

/-- Every discrete input has its first conditioned state (R178). -/
def State.allConditioned (s : State) : Bool := s.field.inputs.toList.all (·.conditioned.isSome)

/-! ## Outputs and the safe state (R88, R95, R106, R168, R169) -/

/-- The safe state is applied (R169). -/
def State.safeState (s : State) : Bool :=
  s.mode == .starting || s.mode == .safe || s.loopOpen

/-- The tip is OFFERED. -/
def TipStage.isOffered : TipStage → Bool
  | .offered _ => true
  | .idle | .requested _ | .tipping _ | .settling _ => false

/-- Breaker power as the sequencer commands it (R95). -/
def BreakerState.power : BreakerState → Bool
  | .working _ | .returning => true
  | .parked | .fault _ => false

/-- The six outputs as the sequencers command them, OUT1 being 0 (R88, R95, R106, R168). -/
def State.command (out : Fin 6) (s : State) : Bool :=
  match s.straps.role with
  | .tip =>
    if out.val = 0 then s.tip.stage.isOffered
    else if out.val = 1 then !s.tip.stage.isOffered
    else if out.val = 2 then s.breaker.state.power
    else false
  | .draw =>
    if out.val = 0 then s.gates.a.state == .opening
    else if out.val = 1 then s.gates.a.state == .closing
    else if out.val = 2 then s.gates.a.state == .warning
    else if out.val = 3 then s.gates.b.state == .opening
    else if out.val = 4 then s.gates.b.state == .closing
    else s.gates.b.state == .warning

/-- The six outputs as driven: off in the safe state, but the permit lamp red at a TIP station, which is on
(R169). -/
def State.drive (out : Fin 6) (s : State) : Bool :=
  if s.safeState then s.straps.role == .tip && out.val == 1 else s.command out

/-! ## Gates -/

/-- A draw is in WARNING, OPENING or OPEN, the states in which end causes are taken (R111). -/
def GateState.drawing : GateState → Bool
  | .warning | .opening | .opened => true
  | .closed | .closing | .fault _ => false

/-- A draw is in hand: from the acceptance until the gate next reaches CLOSED or FAULT (07, R115). -/
def GateState.inHand : GateState → Bool
  | .warning | .opening | .opened | .closing => true
  | .closed | .fault _ => false

/-- The gate counts as open in a DRAWN frame (R125), and its pulses count to the draw (R123). -/
def GateState.running : GateState → Bool
  | .opening | .opened | .closing => true
  | .closed | .warning | .fault _ => false

/-- The gate is in FAULT. -/
def GateState.isFault : GateState → Bool
  | .fault _ => true
  | .closed | .warning | .opening | .opened | .closing => false

/-- The sequencer of a gate. -/
def State.gate (g : Gate) (s : State) : GateSeq := s.gates.get g

/-! ## Peers -/

/-- A peer's record. -/
def State.peer (station : Nat) (s : State) : Option PeerRecord :=
  s.peers.records.find? (·.station == station)

/-- The number is a peer's (R142). -/
def State.isPeer (station : Nat) (s : State) : Bool := s.peers.records.any (·.station == station)

/-- A peer's role in the station table; absent in SAFE (R146). -/
def State.peerRole (station : Nat) (s : State) : Option Role := (s.peer station).bind (·.role)

/-- A peer's mismatch flag (R150). -/
def State.mismatched (station : Nat) (s : State) : Bool :=
  ((s.peer station).map (·.mismatch)).getD false

/-- Every TIP station of the table is PRESENT (R107 test 9). -/
def State.tipPeersPresent (s : State) : Bool :=
  s.peers.records.all (fun r => r.role != some .tip || r.presence == .present)

/-- Every record has answered the roll-call (R151). -/
def State.allAnswered (s : State) : Bool := s.peers.records.all (·.lastState.isSome)

/-- The mode is LISTENING or READY. -/
def Mode.live : Mode → Bool
  | .listening | .ready => true
  | .starting | .safe => false

end Sys2Proof.Machine
end

