-- ==== Sys2Proof/Machine/Formats.lean ====
section
/-! DEFINITION. The layouts of what the part sends: frames on the shaft line (12.1), answers and report parts on
the panel link (12.2). -/

namespace Sys2Proof.Machine

/-! ## Frames -/

/-- The three header characters (12.1): class, station and kind high; kind low and payload length; sequence. -/
def headerBytes (cls station kind length seq : Nat) : List Byte :=
  [BitVec.ofNat 2 cls ++ BitVec.ofNat 4 station ++ (BitVec.ofNat 4 kind).extractLsb' 2 2,
   (BitVec.ofNat 4 kind).extractLsb' 0 2 ++ BitVec.ofNat 6 length,
   BitVec.ofNat 8 seq]

/-- The arbitration field: two class bits, then four station bits (R127, R129). -/
def arbitrationField (cls station : Nat) : BitVec 6 := BitVec.ofNat 2 cls ++ BitVec.ofNat 4 station

/-- The bits of a byte, most significant first (R127). -/
def byteBits (b : Byte) : List Bool := (List.range 8).map (fun i => b.getLsbD (7 - i))

/-- The levels of one character, true for recessive: a dominant start bit, the data bits most significant first,
a recessive stop bit; a data bit of 0 is dominant (R127). -/
def characterLevels (b : Byte) : List Bool := [false] ++ byteBits b ++ [true]

/-- The levels of a frame: its characters back to back (R127). -/
def frameLevels (bytes : List Byte) : List Bool := bytes.flatMap characterLevels

/-- The bit time in microseconds of a line rate in kbit/s (R127). -/
def bitTime (rate : Nat) : Nat := 1000 / rate

/-- A HOLD-SET payload (12.1). -/
def holdPayload : HoldBody → List Byte
  | .halt c => nat1 1 ++ nat1 (causesCode c)
  | .entry => nat1 2
  | .ranging gap surface => nat1 3 ++ nat1 1 ++ int4 gap ++ nat2 surface
  | .starved g => nat1 3 ++ nat1 2 ++ nat1 (gateCode g)

/-- Byte 2 of a STATE payload (12.1). -/
def stateFlagsByte (p : StatePayload) : Byte :=
  0#2 ++ BitVec.ofBool p.digestPresent ++ BitVec.ofBool p.modelSeeded ++ BitVec.ofBool p.hangupGateB ++
  p.hangupSource ++ BitVec.ofBool p.entryHeld

/-- The 32 bytes of a STATE payload (12.1). -/
def stateBytes (p : StatePayload) : List Byte :=
  [p.mode ++ p.line, p.haltCauses, stateFlagsByte p] ++ bytes4 p.gapVolume ++ bytes2 p.gapSurface ++
  [p.openClass] ++ bytes4 p.openVolume ++ [p.unitHigh ++ p.unitLow] ++ bytes4 p.columnVolume ++
  bytes4 p.wetVolume ++ bytes2 p.surface ++ [p.generation] ++ bytes4 p.counter ++ bytes2 p.digest

/-- The payload of a frame (12.1). -/
def Frame.payload : Frame → List Byte
  | .holdSet body => holdPayload body
  | .holdLift kind => nat1 (holdKindCode kind)
  | .offer cls volume moisture => nat1 cls ++ nat4 volume ++ nat1 (moistureCode moisture)
  | .withdraw cause => nat1 (withdrawCode cause)
  | .tipped l generation cumulative =>
    nat1 l.cls ++ nat4 l.volume ++ nat1 (moistureCode l.moisture) ++
    nat1 (flagsCode l.oversize l.estimated l.unauthorised) ++ nat1 generation ++ nat4 cumulative
  | .drawn generation cumulative a b d => nat1 generation ++ nat4 cumulative ++ nat1 (bitSet [a, b, d])
  | .surface depth quality => nat2 depth ++ nat1 (qualityCode quality)
  | .state (some p) => stateBytes p
  | .state none => []

/-- A frame as it goes on the wire: header, payload and CRC, high byte first (R127, R143, R186). -/
def Frame.bytes (station seq : Nat) (f : Frame) : List Byte :=
  let body := headerBytes f.cls station (kindCode f.kind) f.payload.length seq ++ f.payload
  body ++ bytes2 (crc16 body)

/-- The STATE payload of this station as it stands (R69, R92, R154, 12.1). In SAFE the tip state is absent (R154); R94
and R105 have STATE frames show the boom and the gates there, R154 has them absent, and a free value says which
(notes/assumptions/39.md). -/
def State.statePayload (s : State) : StatePayload :=
  let safe := s.mode == .safe
  let shown (code : Nat) : BitVec 4 := if safe && !Config.safeStateShowsUnits then 0#4 else BitVec.ofNat 4 code
  let hang : Option HoldBody := (s.holdOf s.own .hangup).map Hold.body
  let reserve := if safe then none else reservationOf s.own s.reservations
  { mode := BitVec.ofNat 4 (modeCode s.mode)
    line := BitVec.ofNat 4 (lineCode s.line.state)
    haltCauses := BitVec.ofNat 8 (causesCode s.ownCauses)
    entryHeld := (s.holdOf s.own .entry).isSome
    hangupSource := match hang with
      | some (.ranging ..) => 1#2
      | some (.starved _) => 2#2
      | _ => 0#2
    hangupGateB := match hang with
      | some (.starved .b) => true
      | _ => false
    modelSeeded := s.column.seeded
    digestPresent := s.profile.isSome
    gapVolume := match hang with
      | some (.ranging gap _) => BitVec.ofInt 32 gap
      | _ => 0#32
    gapSurface := match hang with
      | some (.ranging _ surface) => BitVec.ofNat 16 surface
      | _ => 0#16
    openClass := BitVec.ofNat 8 ((reserve.map (·.cls)).getD 0)
    openVolume := BitVec.ofNat 32 ((reserve.map (·.volume)).getD 0)
    unitHigh := match s.straps.role with
      | .tip => if safe then 0#4 else BitVec.ofNat 4 (tipCode s.tip.stage)
      | .draw => shown (gateStateCode s.gates.a.state)
    unitLow := shown (match s.straps.role with
      | .tip => breakerCode s.breaker.state
      | .draw => gateStateCode s.gates.b.state)
    columnVolume := BitVec.ofNat 32 s.columnVolume
    wetVolume := BitVec.ofNat 32 s.wetZone
    surface := BitVec.ofNat 16 s.modelSurface
    generation := BitVec.ofNat 8 s.store.generation
    counter := BitVec.ofNat 32 (match s.straps.role with
      | .tip => s.tip.cumulative
      | .draw => s.drawn.cumulative)
    digest := BitVec.ofNat 16 s.prof.digest }

/-! ## Report parts -/

/-- Entries in one part (R176). -/
def Snapshot.perPart : Snapshot → Nat
  | .peers _ => 2
  | .column .. | .holds _ | .reservations _ => 4

/-- Entries in the snapshot. -/
def Snapshot.count : Snapshot → Nat
  | .column _ l => l.length
  | .holds l => l.length
  | .peers l => l.length
  | .reservations l => l.length

/-- The number of parts: entries over entries per part, rounded up, and at least 1 (R176). -/
def Snapshot.parts (s : Snapshot) : Nat := max 1 ((s.count + s.perPart - 1) / s.perPart)

/-- The report kind code (12.2). -/
def Snapshot.code : Snapshot → Nat
  | .column .. => 1
  | .holds _ => 2
  | .peers _ => 3
  | .reservations _ => 4

/-- A segment entry (12.2). -/
def segmentBytes (g : Segment) : List Byte :=
  nat4 g.volume ++ nat1 (moistureCode g.moisture) ++ nat1 (g.origin.getD 0) ++
  nat1 (flagsCode g.oversize g.estimated g.unauthorised)

/-- The codes of 12.2 for dispositions and model reasons. -/
def dispositionCode : Disposition → Nat
  | .seeded => 1 | .reAnchored => 2 | .held => 3
def modelReasonCode : ModelReason → Nat
  | .seeded => 1 | .overfull => 2 | .underrun => 3 | .drift => 4 | .dribble => 5

/-- The last reading: depth, quality, sender, time, disposition; zeros when absent (12.2). -/
def readingBytes : Option Reading → List Byte
  | some r => nat2 r.depth ++ nat1 (qualityCode r.quality) ++ nat1 r.sender ++ nat4 r.time ++
      nat1 (dispositionCode r.disposition)
  | none => nat2 0 ++ nat1 0 ++ nat1 0 ++ nat4 0 ++ nat1 0

/-- The COLUMN head, 41 bytes (12.2). -/
def headBytes (h : ColumnHead) : List Byte :=
  nat1 (if h.seeded then 2 else 1) ++ nat4 h.volume ++ nat2 h.surface ++ nat4 h.zone ++ nat4 h.wet ++
  nat4 h.records.spillVolume ++ nat2 h.records.spillCount ++ nat4 h.records.underrunVolume ++
  nat2 h.records.underrunCount ++ nat2 h.records.driftCount ++ nat2 h.records.mergeCount ++
  readingBytes h.records.lastReading ++ nat1 ((h.records.lastReason.map modelReasonCode).getD 0)

/-- A hold entry, 15 bytes (12.2). -/
def holdBytes (h : Hold) : List Byte :=
  nat1 h.holder ++ nat1 (holdKindCode h.body.kind) ++
  (match h.body with
    | .halt c => nat1 (causesCode c) ++ nat4 h.since ++ nat1 0 ++ nat4 0 ++ nat2 0 ++ nat1 0
    | .entry => nat1 0 ++ nat4 h.since ++ nat1 0 ++ nat4 0 ++ nat2 0 ++ nat1 0
    | .ranging gap surface => nat1 0 ++ nat4 h.since ++ nat1 1 ++ int4 gap ++ nat2 surface ++ nat1 0
    | .starved g => nat1 0 ++ nat4 h.since ++ nat1 2 ++ nat4 0 ++ nat2 0 ++ nat1 (gateCode g))

/-- A reservation, 10 bytes (12.2). -/
def reservationBytes (r : Reservation) : List Byte :=
  nat1 r.station ++ nat1 r.cls ++ nat4 r.volume ++ nat4 r.arrival

/-- The code of a presence state (12.2). -/
def presenceCode : Presence → Nat
  | .unheard => 1 | .present => 2 | .silent => 3

/-- A last STATE as a report sends it: what the layout of 12.1 leaves undefined is 0 (R185): the bits outside the five
HALT causes, a HANGUP source that has no code, the gap figures of any source but RANGING, the gate of any but STARVED,
and an absent digest. A mode, line state or sequencer code outside its table stands as received, which shows it as
unknown (R186, notes/assumptions/38.md). -/
def shownState (p : StatePayload) : StatePayload :=
  { p with
    haltCauses := p.haltCauses &&& 0x1F#8
    hangupSource := if p.hangupSource = 3#2 then 0#2 else p.hangupSource
    hangupGateB := p.hangupGateB && p.hangupSource == 2#2
    gapVolume := if p.hangupSource = 1#2 then p.gapVolume else 0#32
    gapSurface := if p.hangupSource = 1#2 then p.gapSurface else 0#16
    digest := if p.digestPresent then p.digest else 0#16 }

/-- A peer record, 51 bytes (12.2). -/
def peerBytes (r : PeerRecord) (since : Option Nat) : List Byte :=
  let d := r.lastDraw.getD ⟨false, false, false⟩
  nat1 r.station ++ nat1 ((r.role.map roleCode).getD 0) ++ nat1 (presenceCode r.presence) ++
  nat1 (bitSet [r.mismatch, r.lastSeq.isSome, r.lastState.isSome, r.baseline.isSome, r.lastDraw.isSome,
    d.openA, d.openB, d.dribble]) ++
  nat1 (r.lastSeq.getD 0) ++ nat1 r.gapCount ++ nat4 (since.getD Config.max32) ++
  (match r.lastState with
    | some (p, t) => nat4 t ++ stateBytes (shownState p)
    | none => nat4 0 ++ List.replicate 32 0#8) ++
  (match r.baseline with
    | some b => nat1 b.generation ++ nat4 b.counter
    | none => nat1 0 ++ nat4 0)

/-- The entries of a snapshot, each in its bytes. -/
def Snapshot.entryBytes : Snapshot → List (List Byte)
  | .column _ l => l.map segmentBytes
  | .holds l => l.map holdBytes
  | .peers l => l.map (fun e => peerBytes e.1 e.2)
  | .reservations l => l.map reservationBytes

/-- The entries of one part, parts numbered from 1; the COLUMN head stands in part 1 (R176). -/
def Snapshot.partBytes (s : Snapshot) (number : Nat) : List Byte :=
  (match s with
    | .column h _ => if number = 1 then headBytes h else []
    | .holds _ | .peers _ | .reservations _ => []) ++
  ((s.entryBytes.drop ((number - 1) * s.perPart)).take s.perPart).flatten

/-! ## Answers -/

/-- An item of a STATUS answer: block, item, index, value length, value (12.2). -/
def StatusItem.bytes (i : StatusItem) : List Byte :=
  nat1 i.block ++ nat1 i.item ++ nat1 i.index ++ nat1 i.value.length ++ i.value

/-- The body of an answer (12.2). -/
def AnswerBody.bytes : AnswerBody → List Byte
  | .accepted | .busy => []
  | .acceptedCauses c => nat1 (causesCode c)
  | .acceptedEvents p => bytes2 (p.setWidth 16)
  | .refused c => nat1 (refusalCode c)
  | .refusedCauses c => nat1 (refusalCode .causePresent) ++ nat1 (causesCode c)
  | .refusedProfile r => nat1 (refusalCode .profileInvalid) ++ nat1 (reasonCode r)
  | .status items => items.flatMap StatusItem.bytes
  | .events p e => bytes2 (p.setWidth 16) ++ bytes2 (e.setWidth 16)
  | .part s number parts => nat1 s.code ++ nat1 number ++ nat1 parts ++ s.partBytes number
  | .endOfReport s parts => nat1 s.code ++ nat1 0 ++ nat1 parts

/-- The answer codes: 1 ACCEPTED, 2 REFUSED, 3 BUSY, 4 DATA (12.2). -/
def AnswerBody.code : AnswerBody → Nat
  | .accepted | .acceptedCauses _ | .acceptedEvents _ => 1
  | .refused _ | .refusedCauses _ | .refusedProfile _ => 2
  | .busy => 3
  | .status _ | .events .. | .part .. | .endOfReport .. => 4

/-- An answer on the link: length, code, request, body, CRC-16 (12.2). -/
def Answer.bytes (a : Answer) : List Byte :=
  let inside := nat1 (a.body.bytes.length + 5) ++ nat1 a.body.code ++ nat1 a.request ++ a.body.bytes
  inside ++ bytes2 (crc16 inside)

end Sys2Proof.Machine
end

