-- ==== Sys2Proof/WellFormed.lean ====
section
/-! DEFINITION. Which commands can come about: the operand ranges that the types of Syntax do not already give. -/

namespace Sys2Proof

/-- A PROFILE-LOAD carries 1 to 32 bytes (R182, R187). -/
def sliceOk (bytes : List Byte) : Bool :=
  decide (1 ≤ bytes.length) && decide (bytes.length ≤ Config.maxSlice)

/-- A message names no request: its code is 0 or above 24, or its report kind is not 1 to 4 (R171, R187). -/
def UnknownMessage.ok : UnknownMessage → Bool
  | .code c => decide (c.toNat = 0) || decide (24 < c.toNat)
  | .reportKind k => decide (k.toNat = 0) || decide (4 < k.toNat)

/-- The kind codes that are not defined: 0 and 9 to 15 (12.1). -/
def kindUndefined (k : BitVec 4) : Bool :=
  decide (k.toNat = 0) || decide (9 ≤ k.toNat)

/-- IN1 to IN3 have a function in either role; the others are spare in one role at least (R160). -/
def mayBeSpare (i : InputNo) : Bool := decide (3 ≤ i.val)

/-- Peers are numbered 1 to 8 (R146). -/
def peerNumber (n : BitVec 4) : Bool := decide (1 ≤ n.toNat) && decide (n.toNat ≤ 8)

/-- The command can come about as the spec lays its operands out. -/
def Instr.wellFormed : Instr → Bool
  | .profileLoad _ bytes => sliceOk bytes
  | .unknownRequest w => w.ok
  | .report k => !UnknownMessage.ok (.reportKind k)
  | .undefinedKindArrival _ k => kindUndefined k
  | .spareInputEdge i _ => mayBeSpare i
  | .silenceTimerExpiry n => peerNumber n
  | .tip .. | .tipCancel | .breakWork | .breakRenew .. | .breakStop | .draw .. | .drawRenew .. | .drawStop ..
  | .gateReset .. | .halt | .haltRelease | .entry | .entryRelease | .hangupClear | .seed .. | .status ..
  | .reportNext | .events | .eventAck .. | .eventEnable .. | .profileCommit | .restart
  | .malformedMessage | .holdSetArrival .. | .holdLiftArrival .. | .offerArrival .. | .withdrawArrival ..
  | .tippedArrival .. | .drawnArrival .. | .surfaceArrival .. | .stateArrival .. | .receiveError ..
  | .transmitAttemptStart | .arbitrationLoss | .transmitError | .waitLimit | .isolationRetryExpiry
  | .stopLoopOpens | .stopLoopCloses | .truckPresentActive | .truckPresentInactive | .breakerParkActive
  | .breakerParkInactive | .closedLimitActive .. | .closedLimitInactive .. | .openLimitActive ..
  | .openLimitInactive .. | .receiverReadyInactive .. | .receiverReadyActive .. | .inputFirstConditioned ..
  | .inputFirstStateForced .. | .weigherPulse .. | .rangingRecord .. | .offerTimerExpiry | .settleTimerExpiry
  | .breakerRenewalExpiry | .returnTimerExpiry | .warningTimerExpiry .. | .strokeTimerExpiry ..
  | .drawRenewalExpiry .. | .starvationWindowExpiry .. | .wetRestExpiry | .rollCallTimerExpiry
  | .stateTimerExpiry | .pacingTimerExpiry | .storeWriteEnd .. | .coldRestart .. | .warmRestart ..
  | .leaveStarting => true

end Sys2Proof
end

