-- ==== Sys2Proof/Decode.lean ====
section
/-! DEFINITION. The command that a table word spells (none: no row of the table gives bits), and the part's own
decoders: a panel message, a frame on the shaft line and a ranging record, from bytes to a command (R141, R171,
R185 to R188); with the encoders of the messages and frames. -/

namespace Sys2Proof

/-- The command that a word spells by the table's bits. No row of the table gives a bit, so none is spelled. -/
def decodeTableWord (_nbits _w : Nat) : Option Instr := none

open Sys2Proof.Machine (bytes2 bytes4 word16 word32 crc16 nat1 headerBytes)

/-! ## Panel messages (12.2, R171, R187) -/

/-- The fields of a request whose code is in the set; none where the length does not suit it (R187). -/
def decodeRequest (code : Nat) (fields : List Byte) : Option Instr :=
  match code, fields with
  | 1, [cls, moisture] => some (.tip cls moisture)
  | 2, [] => some .tipCancel
  | 3, [] => some .breakWork
  | 4, [token] => some (.breakRenew token)
  | 5, [] => some .breakStop
  | 6, [gate, mode] => some (.draw gate mode none)
  | 6, [gate, mode, high, low] => some (.draw gate mode (some (word16 high low)))
  | 7, [gate, token] => some (.drawRenew gate token)
  | 8, [gate] => some (.drawStop gate)
  | 9, [gate] => some (.gateReset gate)
  | 10, [] => some .halt
  | 11, [] => some .haltRelease
  | 12, [] => some .entry
  | 13, [] => some .entryRelease
  | 14, [] => some .hangupClear
  | 15, [high, low] => some (.seed (word16 high low))
  | 16, [] => some (.status none)
  | 16, [block, item] => some (.status (some (block, item)))
  | 17, [kind] =>
    some (if UnknownMessage.ok (.reportKind kind) then .unknownRequest (.reportKind kind) else .report kind)
  | 18, [] => some .reportNext
  | 19, [] => some .events
  | 20, [high, low] => some (.eventAck (word16 high low))
  | 21, [high, low] => some (.eventEnable (word16 high low))
  | 22, high :: low :: data => if sliceOk data then some (.profileLoad (word16 high low) data) else none
  | 23, [] => some .profileCommit
  | 24, [] => some .restart
  | _, _ => none

/-- The longest message whose code names no request (R187). -/
def longestUnknown : Nat := 40

/-- A message with a good length byte and CRC: a request, an unknown code, or a length that does not suit (R171,
R187). -/
def decodeFields (code : Byte) (fields : List Byte) : Instr :=
  if UnknownMessage.ok (.code code) then
    if fields.length + 4 ≤ longestUnknown then .unknownRequest (.code code) else .malformedMessage
  else (decodeRequest code.toNat fields).getD .malformedMessage

/-- A panel message of bytes (12.2). -/
def decodeMessage (message : List Byte) : Instr :=
  match message with
  | length :: code :: rest =>
    if length.toNat = message.length ∧ 4 ≤ message.length ∧
        rest.drop (rest.length - 2) = bytes2 (crc16 (message.take (message.length - 2))) then
      decodeFields code (rest.take (rest.length - 2))
    else .malformedMessage
  | _ => .malformedMessage

/-- The code and fields of a panel message (12.2). -/
def messageFields : Instr → Option (Byte × List Byte)
  | .tip c m => some (1, [c, m])
  | .tipCancel => some (2, [])
  | .breakWork => some (3, [])
  | .breakRenew t => some (4, [t])
  | .breakStop => some (5, [])
  | .draw g m none => some (6, [g, m])
  | .draw g m (some t) => some (6, [g, m] ++ bytes2 t)
  | .drawRenew g t => some (7, [g, t])
  | .drawStop g => some (8, [g])
  | .gateReset g => some (9, [g])
  | .halt => some (10, [])
  | .haltRelease => some (11, [])
  | .entry => some (12, [])
  | .entryRelease => some (13, [])
  | .hangupClear => some (14, [])
  | .seed d => some (15, bytes2 d)
  | .status none => some (16, [])
  | .status (some (b, i)) => some (16, [b, i])
  | .report k => some (17, [k])
  | .reportNext => some (18, [])
  | .events => some (19, [])
  | .eventAck k => some (20, bytes2 k)
  | .eventEnable k => some (21, bytes2 k)
  | .profileLoad o d => some (22, bytes2 o ++ d)
  | .profileCommit => some (23, [])
  | .restart => some (24, [])
  | .unknownRequest (.code c) => some (c, [])
  | .unknownRequest (.reportKind k) => some (17, [k])
  | .malformedMessage | .holdSetArrival .. | .holdLiftArrival .. | .offerArrival .. | .withdrawArrival ..
  | .tippedArrival .. | .drawnArrival .. | .surfaceArrival .. | .stateArrival .. | .undefinedKindArrival ..
  | .receiveError .. | .transmitAttemptStart | .arbitrationLoss | .transmitError | .waitLimit
  | .isolationRetryExpiry | .stopLoopOpens | .stopLoopCloses | .truckPresentActive | .truckPresentInactive
  | .breakerParkActive | .breakerParkInactive | .closedLimitActive .. | .closedLimitInactive ..
  | .openLimitActive .. | .openLimitInactive .. | .receiverReadyInactive .. | .receiverReadyActive ..
  | .spareInputEdge .. | .inputFirstConditioned .. | .inputFirstStateForced .. | .weigherPulse ..
  | .rangingRecord .. | .offerTimerExpiry | .settleTimerExpiry | .breakerRenewalExpiry | .returnTimerExpiry
  | .warningTimerExpiry .. | .strokeTimerExpiry .. | .drawRenewalExpiry .. | .starvationWindowExpiry ..
  | .wetRestExpiry | .silenceTimerExpiry .. | .rollCallTimerExpiry | .stateTimerExpiry | .pacingTimerExpiry
  | .storeWriteEnd .. | .coldRestart .. | .warmRestart .. | .leaveStarting => none

/-- A message on the panel link: length, code, fields, CRC-16 (12.2). -/
def messageBytes (code : Byte) (fields : List Byte) : List Byte :=
  let inside := nat1 (fields.length + 4) ++ [code] ++ fields
  inside ++ bytes2 (crc16 inside)

/-- The bytes of a command that is a panel message. -/
def encodeMessage (i : Instr) : Option (List Byte) := (messageFields i).map (fun m => messageBytes m.1 m.2)

/-! ## Frames on the shaft line (12.1, R127, R141) -/

/-- The lengths allowed for a kind (12.1). -/
def lengthAllowed (kind length : Nat) : Bool :=
  if kind = 1 then length == 1 || length == 2 || length == 3 || length == 8
  else if kind = 2 then length == 1
  else if kind = 3 then length == 6
  else if kind = 4 then length == 1
  else if kind = 5 then length == 12
  else if kind = 6 then length == 6
  else if kind = 7 then length == 3
  else if kind = 8 then length == 32
  else decide (length ≤ Config.maxPayload)

/-- The fields of the three header characters (12.1). -/
structure HeaderFields where
  header : Header
  kind   : BitVec 4
  length : Nat
deriving DecidableEq, Repr

/-- The header of three characters (12.1). -/
def decodeHeader (c1 c2 c3 : Byte) : HeaderFields :=
  { header := ⟨c1.extractLsb' 6 2, c1.extractLsb' 2 4, c3⟩
    kind := c1.extractLsb' 0 2 ++ c2.extractLsb' 6 2
    length := (c2.extractLsb' 0 6).toNat }

/-- The STATE payload of its 32 bytes (12.1). -/
def decodeState (l : List Byte) : Option StatePayload :=
  match l with
  | [b0, b1, b2, b3, b4, b5, b6, b7, b8, b9, b10, b11, b12, b13, b14, b15, b16, b17, b18, b19, b20, b21, b22, b23,
      b24, b25, b26, b27, b28, b29, b30, b31] =>
    some
      { mode := b0.extractLsb' 4 4, line := b0.extractLsb' 0 4, haltCauses := b1
        entryHeld := b2.getLsbD 0, hangupSource := b2.extractLsb' 1 2, hangupGateB := b2.getLsbD 3
        modelSeeded := b2.getLsbD 4, digestPresent := b2.getLsbD 5
        gapVolume := word32 b3 b4 b5 b6, gapSurface := word16 b7 b8
        openClass := b9, openVolume := word32 b10 b11 b12 b13
        unitHigh := b14.extractLsb' 4 4, unitLow := b14.extractLsb' 0 4
        columnVolume := word32 b15 b16 b17 b18, wetVolume := word32 b19 b20 b21 b22
        surface := word16 b23 b24, generation := b25, counter := word32 b26 b27 b28 b29
        digest := word16 b30 b31 }
  | _ => none

/-- The arrival of a frame that passed the receive checks, by its kind and payload (12.1). -/
def decodePayload (h : Header) (kind : BitVec 4) (payload : List Byte) : Option Instr :=
  match kind.toNat, payload with
  | 1, [k] => some (.holdSetArrival (.received h (.len1 k)))
  | 1, [k, a] => some (.holdSetArrival (.received h (.len2 k a)))
  | 1, [k, a, b] => some (.holdSetArrival (.received h (.len3 k a b)))
  | 1, [k, s, g3, g2, g1, g0, d1, d0] =>
    some (.holdSetArrival (.received h (.len8 k s (word32 g3 g2 g1 g0) (word16 d1 d0))))
  | 2, [k] => some (.holdLiftArrival (.received h k))
  | 3, [c, v3, v2, v1, v0, m] => some (.offerArrival (.received h ⟨c, word32 v3 v2 v1 v0, m⟩))
  | 4, [c] => some (.withdrawArrival (.received h c))
  | 5, [c, v3, v2, v1, v0, m, f, g, t3, t2, t1, t0] =>
    some (.tippedArrival (.received h ⟨c, word32 v3 v2 v1 v0, m, f, g, word32 t3 t2 t1 t0⟩))
  | 6, [g, t3, t2, t1, t0, f] => some (.drawnArrival (.received h ⟨g, word32 t3 t2 t1 t0, f⟩))
  | 7, [d1, d0, q] => some (.surfaceArrival (.received h ⟨word16 d1 d0, q⟩))
  | 8, l => (decodeState l).map (fun p => .stateArrival (.received h p))
  | _, _ => if kindUndefined kind then some (.undefinedKindArrival h kind) else none

/-- A frame as its characters come in: the length check, the truncation check, the CRC check, in order (R141). -/
def decodeFrame (frame : List Byte) : Instr :=
  match frame with
  | c1 :: c2 :: c3 :: rest =>
    let f := decodeHeader c1 c2 c3
    if f.length ≤ Config.maxPayload ∧ lengthAllowed f.kind.toNat f.length then
      if rest.length < f.length + 2 then .receiveError .truncation
      else if (rest.drop f.length).take 2 = bytes2 (crc16 ([c1, c2, c3] ++ rest.take f.length)) then
        (decodePayload f.header f.kind (rest.take f.length)).getD (.receiveError .length)
      else .receiveError .crc
    else .receiveError .length
  | _ => .receiveError .truncation

/-- A frame with a header and a payload (12.1). -/
def frameBytes (h : Header) (kind : Nat) (payload : List Byte) : List Byte :=
  let inside := headerBytes h.cls.toNat h.station.toNat kind payload.length h.seq.toNat ++ payload
  inside ++ bytes2 (crc16 inside)

/-- A HOLD-SET payload as received (12.1). -/
def holdSetBytes : HoldSetPayload → List Byte
  | .len1 k => [k]
  | .len2 k a => [k, a]
  | .len3 k a b => [k, a, b]
  | .len8 k s gap surface => [k, s] ++ bytes4 gap ++ bytes2 surface

/-- The frame of a received arrival of a defined kind. -/
def encodeFrame : Instr → Option (List Byte)
  | .holdSetArrival (.received h p) => some (frameBytes h 1 (holdSetBytes p))
  | .holdLiftArrival (.received h k) => some (frameBytes h 2 [k])
  | .offerArrival (.received h p) => some (frameBytes h 3 ([p.cls] ++ bytes4 p.volume ++ [p.moisture]))
  | .withdrawArrival (.received h c) => some (frameBytes h 4 [c])
  | .tippedArrival (.received h p) =>
    some (frameBytes h 5 ([p.cls] ++ bytes4 p.volume ++ [p.moisture, p.flags, p.generation] ++ bytes4 p.cumulative))
  | .drawnArrival (.received h p) =>
    some (frameBytes h 6 ([p.generation] ++ bytes4 p.cumulative ++ [p.flags]))
  | .surfaceArrival (.received h p) => some (frameBytes h 7 (bytes2 p.depth ++ [p.quality]))
  | .stateArrival (.received h p) => some (frameBytes h 8 (Machine.stateBytes p))
  | .holdSetArrival .own | .holdLiftArrival .own | .offerArrival .own | .withdrawArrival .own | .tippedArrival .own
  | .drawnArrival .own | .surfaceArrival .own | .stateArrival .own | .undefinedKindArrival ..
  | .tip .. | .tipCancel | .breakWork | .breakRenew .. | .breakStop | .draw .. | .drawRenew .. | .drawStop ..
  | .gateReset .. | .halt | .haltRelease | .entry | .entryRelease | .hangupClear | .seed .. | .status ..
  | .report .. | .reportNext | .events | .eventAck .. | .eventEnable .. | .profileLoad .. | .profileCommit
  | .restart | .malformedMessage | .unknownRequest ..
  | .receiveError .. | .transmitAttemptStart | .arbitrationLoss | .transmitError | .waitLimit
  | .isolationRetryExpiry | .stopLoopOpens | .stopLoopCloses | .truckPresentActive | .truckPresentInactive
  | .breakerParkActive | .breakerParkInactive | .closedLimitActive .. | .closedLimitInactive ..
  | .openLimitActive .. | .openLimitInactive .. | .receiverReadyInactive .. | .receiverReadyActive ..
  | .spareInputEdge .. | .inputFirstConditioned .. | .inputFirstStateForced .. | .weigherPulse ..
  | .rangingRecord .. | .offerTimerExpiry | .settleTimerExpiry | .breakerRenewalExpiry | .returnTimerExpiry
  | .warningTimerExpiry .. | .strokeTimerExpiry .. | .drawRenewalExpiry .. | .starvationWindowExpiry ..
  | .wetRestExpiry | .silenceTimerExpiry .. | .rollCallTimerExpiry | .stateTimerExpiry | .pacingTimerExpiry
  | .storeWriteEnd .. | .coldRestart .. | .warmRestart .. | .leaveStarting => none

/-! ## Ranging records (R188) -/

/-- The start byte of a record. -/
def rangingStart : Byte := 0xA5#8

/-- A ranging record of five bytes: start, distance, quality, and a check that is their sum. No later byte is a start
byte, which would begin a new record (R188). -/
def decodeRanging (bytes : List Byte) : RangingRecord :=
  match bytes with
  | [start, high, low, quality, check] =>
    if start = rangingStart ∧ rangingStart ∉ [high, low, quality, check] ∧ check = high + low + quality ∧
        quality.toNat ≤ 15 then
      .record (word16 high low) (quality.extractLsb' 0 4)
    else .malformed
  | _ => .malformed

/-- One byte on the ranging input: the bytes of the record under way after it, and the records that end with it. A start
byte begins a record and cuts one under way short, which counts as malformed; a byte outside a record is set aside
(R188, notes/assumptions/43.md). -/
def rangingByte (held : List Byte) (b : Byte) : List Byte × List RangingRecord :=
  if b = rangingStart then ([b], if held.isEmpty then [] else [.malformed])
  else if held.isEmpty then ([], [])
  else if held.length < 4 then (held ++ [b], [])
  else ([], [decodeRanging (held ++ [b])])

/-- The records that a stream of bytes brings, after the bytes held of a record under way (R188). -/
def rangingRecords : List Byte → List Byte → List RangingRecord
  | _, [] => []
  | held, b :: rest => (rangingByte held b).2 ++ rangingRecords (rangingByte held b).1 rest

end Sys2Proof
end

