-- ==== Sys2Proof/Machine/ColumnOps.lean ====
section
/-! DEFINITION. The column model: joins, merges, removals, re-anchors and seeds (R16 to R37), and the wet status
that follows each change (R51). -/

namespace Sys2Proof.Machine

/-! ## The segment list -/

/-- The moisture ranks DRY < DAMP < WET < UNKNOWN (R16). -/
def Moisture.rank : Moisture → Nat
  | .dry => 0 | .damp => 1 | .wet => 2 | .unknown => 3

/-- The higher of two moistures (R22). -/
def Moisture.higher (m n : Moisture) : Moisture := if m.rank < n.rank then n else m

/-- Two segments in one (R22). -/
def mergeSegments (lower upper : Segment) : Segment :=
  { volume := lower.volume + upper.volume
    moisture := lower.moisture.higher upper.moisture
    origin := if lower.origin = upper.origin then lower.origin else none
    oversize := lower.oversize || upper.oversize
    estimated := lower.estimated || upper.estimated
    unauthorised := lower.unauthorised || upper.unauthorised }

/-- The two bottom segments merged (R22). -/
def mergeBottom : List Segment → List Segment
  | lower :: upper :: rest => mergeSegments lower upper :: rest
  | short => short

/-- A segment joins at the top, the two bottom ones merging first when the list is full; one of 0 dL makes no
segment (R21). -/
def Column.join (g : Segment) (c : Column) : Column :=
  if g.volume = 0 then c
  else if c.segments.length < Config.maxSegments then { c with segments := c.segments ++ [g] }
  else { c with segments := mergeBottom c.segments ++ [g], mergeCount := bump16 c.mergeCount }

/-- A layer joins with its volume trimmed to the free volume; the rest is spill (R11, R21). -/
def Column.layer (capacity : Nat) (g : Segment) (c : Column) : Column × Nat :=
  let split := splitTip capacity (totalVolume c.segments) g.volume
  (c.join { g with volume := split.1 }, split.2)

/-- Layers join one after the other; the spill of all of them together (R21, R23). -/
def Column.layers (capacity : Nat) : List Segment → Column → Column × Nat
  | [], c => (c, 0)
  | g :: gs, c =>
    let first := c.layer capacity g
    let rest := Column.layers capacity gs first.1
    (rest.1, first.2 + rest.2)

/-- Volume taken from the first segments of a list: whole ones leave, the last touched is reduced (R27). -/
def takeVolume : List Segment → Nat → List Segment
  | [], _ => []
  | g :: gs, v => if v < g.volume then { g with volume := g.volume - v } :: gs else takeVolume gs (v - g.volume)

/-- Volume taken from the top (R30). -/
def takeTop (segments : List Segment) (v : Nat) : List Segment := (takeVolume segments.reverse v).reverse

/-- Volume added to the top segment, which becomes estimated (R31). -/
def growTop (segments : List Segment) (v : Nat) : List Segment :=
  match segments.reverse with
  | [] => []
  | top :: below => ({ top with volume := top.volume + v, estimated := true } :: below).reverse

/-- A segment of no known source (R31, R36, R37). -/
def looseSegment (volume : Nat) (moisture : Moisture) : Segment :=
  ⟨volume, moisture, none, false, true, false⟩

/-- A catch-up segment (R23, R24, R26). -/
def catchUpSegment (origin volume : Nat) : Segment := ⟨volume, .unknown, some origin, false, true, false⟩

/-- A tip segment (R23). -/
def tipSegment (origin : Nat) (l : Load) : Segment :=
  ⟨l.volume, l.moisture, some origin, l.oversize, l.estimated, l.unauthorised⟩

/-- A segment list of one segment, or of none when it would hold 0 dL (R17). -/
def listOf (g : Segment) : List Segment := if g.volume = 0 then [] else [g]

/-! ## Changes of the model -/

/-- The watch unit evaluates the wet status and marks WET-CHANGE when it differs from the one in force (R51). -/
def State.evaluateWet (s : State) : State :=
  if s.columnWet = s.watch.wet then s
  else State.mark .wetChange (s.setWatch { s.watch with wet := s.columnWet })

/-- A change of the column model; one that alters the list or the model state is told to the watch unit (R19). -/
def State.setColumn (c : Column) (s : State) : State :=
  if c.segments = s.column.segments ∧ c.seeded = s.column.seeded then s.setColumnRecord c
  else State.evaluateWet (s.setColumnRecord c)

/-- A MODEL event with its reason (R20). -/
def State.modelEvent (r : ModelReason) (s : State) : State :=
  State.mark .model (s.setColumnRecord { s.column with lastReason := some r })

/-- The column after layers have joined, with its spill counted (R20, R23). -/
def Column.afterLayers (capacity : Nat) (layers : List Segment) (c : Column) : Column :=
  let r := Column.layers capacity layers c
  if r.2 = 0 then r.1
  else { r.1 with spillVolume := add32 r.1.spillVolume r.2, spillCount := bump16 r.1.spillCount }

/-- A tip with its catch-up, or a catch-up alone: the layers join as one change of a SEEDED model; spill raises
OVERFULL once (R23, R24, R26). An UNSEEDED model takes none (R25). -/
def State.addLayers (layers : List Segment) (s : State) : State :=
  if s.column.seeded then
    let t := s.setColumn (s.column.afterLayers s.prof.capacity layers)
    if (Column.layers s.prof.capacity layers s.column).2 = 0 then t else t.modelEvent .overfull
  else s

/-- The column after a draw increment (R27, R28). -/
def Column.afterDraw (density mass : Nat) (c : Column) : Column :=
  let d := drawnVolume density c.remainder mass
  let t := { c with segments := takeVolume c.segments d.1, remainder := d.2 }
  if d.1 ≤ totalVolume c.segments then t
  else { t with underrunVolume := add32 t.underrunVolume (d.1 - totalVolume c.segments),
                underrunCount := bump16 t.underrunCount }

/-- A draw increment reaches the model (R27 to R29): none from 0 kg, none at an UNSEEDED model. -/
def State.drawIncrement (mass : Nat) (s : State) : State :=
  if s.column.seeded = false ∨ mass = 0 then s
  else
    let t := s.setColumn (s.column.afterDraw s.prof.density mass)
    if (drawnVolume s.prof.density s.column.remainder mass).1 ≤ s.columnVolume then t
    else t.modelEvent .underrun

/-- The segment list moved to a target volume (R30, R31). -/
def reanchored (target : Nat) (segments : List Segment) : List Segment :=
  if target < totalVolume segments then takeTop segments (totalVolume segments - target)
  else if totalVolume segments < target then
    (match segments with
      | [] => listOf (looseSegment target .damp)
      | _ :: _ => growTop segments (target - totalVolume segments))
  else segments

/-- V_t for a reading (R13). -/
def State.target (depth : Nat) (s : State) : Nat := volumeBelow s.prof.bands depth

/-- Δ for a reading (R13). -/
def State.delta (depth : Nat) (s : State) : Int := discrepancy s.modelSurface depth

/-- The column model applies a re-anchor, counting drift when |Δ| is at least T_tol (R30 to R32). -/
def State.reanchor (depth : Nat) (s : State) : State :=
  let t := s.setColumn { s.column with segments := reanchored (s.target depth) s.column.segments }
  if (s.delta depth).natAbs < s.prof.tTol then t
  else State.modelEvent .drift (t.setColumnRecord { t.column with driftCount := bump16 t.column.driftCount })

/-- The last surface reading is replaced (R33). -/
def State.recordReading (depth : Nat) (q : Quality) (sender : Nat) (d : Disposition) (s : State) : State :=
  s.setColumnRecord { s.column with lastReading := some ⟨depth, q, sender, s.time, d⟩ }

/-- A seed: the list is built and the model passes to SEEDED in one change (R35). -/
def State.seedWith (segments : List Segment) (s : State) : State :=
  (s.setColumn { s.column with seeded := true, segments := segments }).modelEvent .seeded

/-- A seed from a SURFACE frame: one DAMP segment of Vb(S_r) (R37). -/
def State.seedSurface (depth : Nat) (s : State) : State :=
  s.seedWith (listOf (looseSegment (s.target depth) .damp))

/-- A seed from a peer's STATE: its wet volume at the bottom, the rest DAMP above (R36). -/
def State.seedState (volume wet : Nat) (s : State) : State :=
  let v := min volume s.prof.capacity
  let w := min wet v
  s.seedWith (listOf (looseSegment w .wet) ++ listOf (looseSegment (v - w) .damp))

/-- The column changed between two states, so that its neighbours are informed (R19). -/
def columnChanged (before after : State) : Bool :=
  before.column.segments != after.column.segments || before.column.seeded != after.column.seeded

end Sys2Proof.Machine
end

