-- ==== Sys2Proof/Machine/LineOps.lean ====
section
/-! DEFINITION. The transmit queue: joining, dropping, coalescing and attempts (R128 to R139), and what a frame
that leaves without arriving does at the block that formed it (R136). -/

namespace Sys2Proof.Machine

/-! ## The queue (R133 to R135) -/

/-- A frame as it joins: no attempt, not started (R133). -/
def QueuedFrame.fresh (f : Frame) : QueuedFrame := ⟨f, 0, false, false⟩

/-- A frame of this kind. -/
def QueuedFrame.hasKind (k : FrameKind) (q : QueuedFrame) : Bool := q.frame.kind == k

/-- The first element a test holds for, changed in its place. -/
def modifyFirst (p : α → Bool) (f : α → α) : List α → List α
  | [] => []
  | x :: xs => if p x then f x :: xs else x :: modifyFirst p f xs

/-- The last element a test holds for. -/
def findLast (p : α → Bool) (l : List α) : Option α := l.reverse.find? p

/-- The list without the last element a test holds for. -/
def eraseLast (p : α → Bool) (l : List α) : List α := (l.reverse.eraseP p).reverse

/-- The worst class among the frames not on the wire; class 3 is the worst (R135). -/
def worstClass (queue : List QueuedFrame) : Nat :=
  ((queue.filter (!·.onWire)).map (·.frame.cls)).foldl max 0

/-- The best class in the queue; class 0 is the best (R133). -/
def bestClass (queue : List QueuedFrame) : Nat := (queue.map (·.frame.cls)).foldl min 3

/-- The frame may be dropped for one of class `cls`: not on the wire, of the worst class, and that class worse
(R135). -/
def QueuedFrame.givesWay (queue : List QueuedFrame) (cls : Nat) (q : QueuedFrame) : Bool :=
  !q.onWire && q.frame.cls == worstClass queue && decide (cls < q.frame.cls)

/-- The counters after one more drop (R132). -/
def LineCounters.oneDrop (c : LineCounters) : LineCounters := { c with drops := bump16 c.drops }

/-- A frame joins, or the newest frame of the worst class is dropped for it, or it is dropped itself; the frame
dropped is told (R133, R135). -/
def Line.join (f : Frame) (l : Line) : Line × Option Frame :=
  if l.queue.length < Config.queueCapacity then
    ({ l with queue := l.queue ++ [QueuedFrame.fresh f] }, none)
  else
    match findLast (QueuedFrame.givesWay l.queue f.cls) l.queue with
    | some q =>
      ({ l with queue := eraseLast (QueuedFrame.givesWay l.queue f.cls) l.queue ++ [QueuedFrame.fresh f],
                counters := l.counters.oneDrop }, some q.frame)
    | none => ({ l with counters := l.counters.oneDrop }, some f)

/-- A new frame takes the content, and the place, age and attempt count stand (R134; the started flag is cleared,
notes/assumptions/15.md). -/
def QueuedFrame.replace (f : Frame) (q : QueuedFrame) : QueuedFrame := { q with frame := f, started := false }

/-- A frame handed over: coalesced by R134, otherwise taken by R133. The frame dropped is told. -/
def Line.offer (f : Frame) (l : Line) : Line × Option Frame :=
  match if f.kind.coalesces then l.queue.find? (QueuedFrame.hasKind f.kind) else none with
  | some q =>
    if q.onWire then ({ l with waiting := l.waiting.filter (·.kind != f.kind) ++ [f] }, none)
    else ({ l with queue := modifyFirst (QueuedFrame.hasKind f.kind) (QueuedFrame.replace f) l.queue }, none)
  | none => l.join f

/-! ## What a lost frame means to its producer (R136) -/

/-- A tip ends: IDLE, timers stopped, the outcome recorded, TIP-OUTCOME marked (R78, R79, R87). -/
def State.tipEnd (o : Outcome) (load : Load) (s : State) : State :=
  State.mark .tipOutcome
    (s.setTip { s.tip with stage := .idle, offerTimer := Timer.stopped, settleTimer := Timer.stopped,
                           lastOutcome := some ⟨o, load, s.time⟩ })

/-- A station's entry leaves the reservation list; without one, no change (R91, R92). -/
def State.dropReservation (station : Nat) (s : State) : State :=
  s.setReservations (s.reservations.filter (·.station != station))

/-- A frame left the queue without arriving, or was dropped before it joined (R136). A SURFACE removed at
isolation is not lost this way (R34). -/
def State.frameLost (f : Frame) (s : State) : State :=
  match f with
  | .offer .. =>
    match s.tip.stage with
    | .requested load => s.tipEnd (.withdrawn .line) load
    | .idle | .offered _ | .tipping _ | .settling _ => s
  | .withdraw _ => s.dropReservation s.own
  | .tipped load _ _ => (s.dropReservation s.own).addLayers [catchUpSegment s.own load.volume]
  | .holdSet _ | .holdLift _ | .drawn .. | .surface .. | .state _ => s

/-- A frame is taken into the queue, and the one dropped for it is lost (R133 to R136). -/
def State.enqueue (f : Frame) (s : State) : State :=
  match s.line.offer f with
  | (l, none) => s.setLine l
  | (l, some lost) => (s.setLine l).frameLost lost

/-- A block hands a frame over. OFFLINE takes nothing (R140); ISOLATED queues STATE alone, and any other frame is
treated as dropped (R138), which the drop counter does not count (notes/assumptions/17.md). -/
def State.handOver (f : Frame) (s : State) : State :=
  match s.line.state with
  | .offline => s
  | .active => s.enqueue f
  | .isolated => if f.kind = .state then s.enqueue f else s.frameLost f

/-! ## Attempts (R128 to R130, R143) -/

/-- The frame is one the controller would send next: the best class, oldest first (R133); while ISOLATED, a
STATE when its one attempt is due (R139); nothing while OFFLINE (R140). -/
def Line.sendable (l : Line) (q : QueuedFrame) : Bool :=
  match l.state with
  | .offline => false
  | .active => q.frame.cls == bestClass l.queue
  | .isolated => l.retryDue && q.frame.kind == .state

/-- A frame is on the wire. -/
def Line.sending (l : Line) : Bool := l.queue.any (·.onWire)

/-- The content an attempt carries: a STATE is formed from the state as it stands (R69, R153). -/
def State.attemptFrame (f : Frame) (s : State) : Frame :=
  match f with
  | .state _ => .state (some s.statePayload)
  | .holdSet .. | .holdLift .. | .offer .. | .withdraw .. | .tipped .. | .drawn .. | .surface .. => f

/-- The attempt begins: the frame goes on the wire with the next sequence, and its started flag is set (R128,
R133, R143). -/
def State.beginAttempt (q : QueuedFrame) (s : State) : State :=
  s.setLine { s.line with
    queue := modifyFirst s.line.sendable
      (fun x => { x with frame := s.attemptFrame x.frame, started := true, onWire := true }) s.line.queue
    wire := some ((s.attemptFrame q.frame).bytes s.own s.line.nextSeq) }

/-- At a line idle the controller sends the frame it selects (R128). -/
def State.startAttempt (s : State) : State :=
  if s.line.sending then s
  else
    match s.line.queue.find? s.line.sendable with
    | some q => s.beginAttempt q
    | none => s

/-- Nothing is driven on the wire any more. -/
def Line.stopDriving (l : Line) : Line :=
  { l with queue := l.queue.map (fun q => { q with onWire := false }), wire := none }

/-- The waiting replacements are settled at the end of the attempt: each replaces the frame of its kind, or joins
(R134). -/
def State.settleWaiting (s : State) : State :=
  s.line.waiting.foldl (fun t f => t.handOver f) (s.setLine { s.line with waiting := [] })

/-- Arbitration is lost: the frame stays in its place, and no attempt is charged (R129). -/
def State.loseArbitration (s : State) : State :=
  if s.line.sending then
    let l := s.line.stopDriving
    (s.setLine { l with counters := { l.counters with arbitrationLosses := bump16 l.counters.arbitrationLosses } })
      |>.settleWaiting
  else s

/-! ## Own arrivals (R131, R137, R139, R143) -/

/-- The line controller's part of an own arrival: the frame leaves, the sequence advances, the discards in a row
end. -/
def Line.arrived (l : Line) : Line :=
  { l with queue := l.queue.eraseP (·.onWire), wire := none, nextSeq := (l.nextSeq + 1) % 256, consecutive := 0
           counters := { l.counters with sent := bump16 l.counters.sent } }

/-- The isolated station's STATE has arrived: the line is ACTIVE again (R139). -/
def State.returnActive (s : State) : State :=
  if s.line.state = .isolated then
    State.mark .line (s.setLine { s.line with state := .active, retryTimer := Timer.stopped, retryDue := false,
                                              lastReason := some .active })
  else s

/-- The frame on the wire arrives at this station, where it is of the kind; `act` is what its blocks do. -/
def State.ownArrival (k : FrameKind) (act : Frame → State → State) (s : State) : State :=
  match s.line.queue.find? (·.onWire) with
  | some q =>
    if q.frame.kind = k then act q.frame ((s.setLine s.line.arrived).returnActive).settleWaiting else s
  | none => s

end Sys2Proof.Machine
end

