-- ==== Sys2Proof/Machine/TipOps.lean ====
section
/-! DEFINITION. Shared operations of the tip sequencer and the reservation list (R75 to R92, R103). -/

namespace Sys2Proof.Machine

/-! ## The tip sequencer -/

/-- The tip state is replaced, the timers standing. -/
def State.setStage (t : TipStage) (s : State) : State := s.setTip { s.tip with stage := t }

/-- An own OFFER that has not begun transmission. -/
def QueuedFrame.isFreshOffer (q : QueuedFrame) : Bool := q.frame.kind == .offer && !q.started

/-- An OFFER of this station stands in the queue and has not begun transmission (R79). -/
def Line.hasFreshOffer (l : Line) : Bool := l.queue.any QueuedFrame.isFreshOffer

/-- The producer removes its OFFER (R133). -/
def State.removeOffer (s : State) : State :=
  s.setLine { s.line with queue := s.line.queue.eraseP QueuedFrame.isFreshOffer }

/-- The OFFER of a tip that left REQUESTED: removed if not begun, otherwise followed by a WITHDRAW (R79, R82). -/
def State.revokeOffer (cause : WithdrawCause) (s : State) : State :=
  if s.line.hasFreshOffer then s.removeOffer else s.handOver (.withdraw cause)

/-- A REQUESTED or OFFERED tip is withdrawn (R79); while ISOLATED no WITHDRAW is queued and the own entry leaves
(R85). -/
def State.withdrawTip (cause : WithdrawCause) (s : State) : State :=
  match s.tip.stage with
  | .requested load =>
    let t := s.tipEnd (.withdrawn cause) load
    if t.line.state = .isolated then t.dropReservation t.own else t.revokeOffer cause
  | .offered load =>
    let t := s.tipEnd (.withdrawn cause) load
    if t.line.state = .isolated then t.dropReservation t.own else t.handOver (.withdraw cause)
  | .idle | .tipping _ | .settling _ => s

/-- The settle time of the profile, in ms. -/
def State.settleMs (s : State) : Nat := seconds s.prof.settleTime

/-- The breaker is PARKED. -/
def State.breakerParked (s : State) : Bool := s.breaker.state == .parked

/-- The load marked oversize where the breaker is out as it is taken on the grizzly (R103). -/
def State.loadOnGrizzly (load : Load) (s : State) : Load :=
  if s.breakerParked then load else { load with oversize := true }

/-- The tip goes to TIPPING, the timers stopped (R82, R103). -/
def State.enterTipping (load : Load) (s : State) : State :=
  s.setTip { s.tip with stage := .tipping (s.loadOnGrizzly load), offerTimer := Timer.stopped,
                        settleTimer := Timer.stopped }

/-- The load of a truck without permit: class 6, its volume, UNKNOWN (R82). -/
def State.unknownLoad (s : State) : Load :=
  { cls := 6, volume := s.prof.classVolume 6, moisture := .unknown, oversize := false, estimated := true
    unauthorised := true }

/-- The load of an accepted TIP (R77). -/
def State.requestedLoad (cls : Nat) (m : Moisture) (s : State) : Load :=
  ⟨cls, s.prof.classVolume cls, m, false, false, false⟩

/-- The cumulative tipped volume after a load (R87 step 1). -/
def State.countedVolume (load : Load) (s : State) : Nat := add32 s.tip.cumulative load.volume

/-- A load is counted: the counter, the TIPPED frame, IDLE with its outcome (R87). -/
def State.countLoad (load : Load) (s : State) : State :=
  ((s.setTip { s.tip with cumulative := s.countedVolume load }).tipEnd .tipped load).handOver
    (.tipped load s.store.generation (s.countedVolume load))

/-- The breaker has left PARKED (R84, R86, R103). -/
def State.informBreakerOut (s : State) : State :=
  match s.tip.stage with
  | .idle => s
  | .requested _ | .offered _ => s.withdrawTip .breaker
  | .tipping load => s.setStage (.tipping { load with oversize := true })
  | .settling load =>
    s.setTip { s.tip with stage := .settling { load with oversize := true }, settleTimer := Timer.hold s.settleMs }

/-- The breaker is PARKED again (R86, R103). -/
def State.informBreakerIn (s : State) : State :=
  match s.tip.stage with
  | .settling _ => s.setTip { s.tip with settleTimer := Timer.start s.settleMs }
  | .idle | .requested _ | .offered _ | .tipping _ => s

/-- The room an OFFERED tip finds at a recheck (R8, R83). -/
def State.recheckRoom (s : State) : Nat := s.room s.own (entriesBefore s.own s.reservations)

/-- The room at the own level for a fresh check (R8). -/
def State.freshRoom (s : State) : Nat := s.room s.own s.reservations

/-- An OFFERED tip rechecks its room (R83). -/
def State.recheckTip (s : State) : State :=
  match s.tip.stage with
  | .offered load => if s.column.seeded ∧ s.recheckRoom < load.volume then s.withdrawTip .room else s
  | .idle | .requested _ | .tipping _ | .settling _ => s

/-! ## The reservation list -/

/-- The role of a station in the table in force, this station's as strapped. -/
def State.roleOf (station : Nat) (s : State) : Option Role :=
  if station = s.own then some s.straps.role else s.peerRole station

/-- An entry at the end of the list, with its time of arrival (R89). -/
def State.addReservation (station cls volume : Nat) (s : State) : State :=
  s.setReservations (s.reservations ++ [⟨station, cls, volume, s.time⟩])

/-- An OFFER is judged in line order (R90). -/
def State.judgeOffer (station cls volume : Nat) (s : State) : State :=
  if s.roleOf station = some .tip ∧ loadInRange cls volume then
    let t := s.dropReservation station
    if t.column.seeded = false ∨ volume ≤ t.room station t.reservations then t.addReservation station cls volume
    else t
  else s

/-- A reservation with another class and volume; place and time stand (R91). -/
def Reservation.restate (cls volume : Nat) (r : Reservation) : Reservation := { r with cls := cls, volume := volume }

/-- A TIP peer's entry is made to match the open reservation of its STATE (R91). -/
def State.reconcileReservation (station : Nat) (declared : Option (Nat × Nat)) (s : State) : State :=
  match declared with
  | none => s.dropReservation station
  | some (cls, volume) =>
    match reservationOf station s.reservations with
    | none => s.addReservation station cls volume
    | some _ =>
      s.setReservations
        (s.reservations.map (fun r => if r.station = station then r.restate cls volume else r))

/-- The tip sequencer at the arrival of its own OFFER, after the reservation list (R78). -/
def State.ownOfferJudged (s : State) : State :=
  match s.tip.stage with
  | .requested load =>
    if (reservationOf s.own s.reservations).isSome then
      s.setTip { s.tip with stage := .offered load, offerTimer := Timer.start (seconds s.prof.offerTimeout) }
    else (s.tipEnd .noRoom load).handOver (.withdraw .noRoom)
  | .idle | .offered _ | .tipping _ | .settling _ => s

end Sys2Proof.Machine
end

