-- ==== Sys2Proof/Machine/BreakerOps.lean ====
section
/-! DEFINITION. Shared operations of the breaker sequencer (R94 to R104). -/

namespace Sys2Proof.Machine

/-- The breaker takes a new state, its timers stopped, and marks BREAKER-CHANGE; an entry into FAULT also marks
FAULT (R104). -/
def State.enterBreaker (b : BreakerState) (s : State) : State :=
  let t := State.mark .breakerChange
    (s.setBreaker { s.breaker with state := b, renewal := Timer.stopped, returning := Timer.stopped })
  match b with
  | .fault _ => t.mark .fault
  | .parked | .working _ | .returning => t

/-- The breaker comes to PARKED, and the tip sequencer is informed (R103). -/
def State.parkBreaker (s : State) : State := (s.enterBreaker .parked).informBreakerIn

/-- The last work end is recorded (R94, R99). -/
def State.recordWorkEnd (cause : WorkEnd) (s : State) : State :=
  s.setBreaker { s.breaker with lastEnd := some (cause, s.time) }

/-- Granted work ends: to RETURNING with the return limit running, or on to PARKED where the park input is
active (R99, R100). Out of WORKING there is none to end. -/
def State.endBreakerWork (cause : WorkEnd) (s : State) : State :=
  match s.breaker.state with
  | .working _ =>
    let t := s.recordWorkEnd cause
    if t.parkActive then t.parkBreaker
    else
      let u := t.enterBreaker .returning
      u.setBreaker { u.breaker with returning := Timer.start (seconds u.prof.returnLimit) }
  | .parked | .returning | .fault _ => s

/-- Work or return is cut by the stop loop (R102). -/
def State.dropBreaker (s : State) : State :=
  if s.parkActive then s.parkBreaker else s.enterBreaker (.fault .notParked)

/-- The stop loop opens at the breaker sequencer (R102). -/
def State.breakerLoopOpens (s : State) : State :=
  match s.breaker.state with
  | .working _ => (s.recordWorkEnd .stopLoop).dropBreaker
  | .returning => s.dropBreaker
  | .parked | .fault _ => s

end Sys2Proof.Machine
end

