-- ==== Sys2Proof/Machine/GateOps.lean ====
section
/-! DEFINITION. Shared operations of the gate sequencers that touch no hold (R105 to R126), and the wet test at the
gates (R52 to R54). -/

namespace Sys2Proof.Machine

/-- A gate's sequencer is changed. -/
def State.updateGate (g : Gate) (f : GateSeq → GateSeq) (s : State) : State := s.setGates (s.gates.modify g f)

/-- The last draw record is changed, where there is one. -/
def GateSeq.onRecord (f : DrawRecord → DrawRecord) (q : GateSeq) : GateSeq := { q with record := q.record.map f }

/-- The record is wet-restricted. -/
def GateSeq.wetRecord (q : GateSeq) : Bool := (q.record.map (·.wetRestricted)).getD false

/-! ## Windows and the wet rest -/

/-- A gate's starvation window is changed. -/
def State.setWindow (g : Gate) (w : Window) (s : State) : State :=
  s.setWatch { s.watch with windows := s.watch.windows.modify g (fun _ => w) }

/-- The window stops with a count of 0 kg (R48). -/
def State.stopWindow (g : Gate) (s : State) : State := s.setWindow g Window.stopped

/-- The window starts with its full length and a count of 0 kg (R48). -/
def State.startWindow (g : Gate) (s : State) : State :=
  s.setWindow g ⟨Timer.start (seconds s.prof.starvationWindow), 0⟩

/-- The gate leaves OPEN: its window stops (R48). -/
def State.stopOpenWindow (g : Gate) (s : State) : State :=
  if (s.gate g).state = .opened then s.stopWindow g else s

/-- The wet rest starts in full at the end of a wet-restricted draw (R54). -/
def State.startWetRest (wet : Bool) (s : State) : State :=
  if wet then s.setWatch { s.watch with wetRest := Timer.start (seconds s.prof.wetRest) } else s

/-! ## DRAWN frames (R125) -/

/-- A DRAWN frame is formed: the reported mass follows, the dribble memory clears; ISOLATED queues none. -/
def State.formDrawn (s : State) : State :=
  (s.setDrawn { s.drawn with reported := s.drawn.cumulative, dribble := false }).handOver
    (.drawn s.store.generation s.drawn.cumulative s.gates.a.state.running s.gates.b.state.running s.drawn.dribble)

/-- A DRAWN is formed at a completed draw where mass is yet unreported (R112, R115, R125). -/
def State.formDrawnIfAdvanced (s : State) : State :=
  if s.drawn.reported < s.drawn.cumulative then s.formDrawn else s

/-! ## The end of a draw -/

/-- The sequencer at rest in CLOSED after a draw (R112). -/
def GateSeq.close (time : Nat) (q : GateSeq) : GateSeq :=
  { q with state := .closed, mode := none, wetCap := none, warning := Timer.stopped, stroke := Timer.stopped
           dribble := ⟨true, false⟩
           record := q.record.map (fun r => { r with outcome := some (true, time) }) }

/-- Entry into CLOSED that ends a draw (R112). -/
def State.enterClosed (g : Gate) (s : State) : State :=
  ((State.mark .drawEnd (s.updateGate g (GateSeq.close s.time))).startWetRest (s.gate g).wetRecord)
    |>.formDrawnIfAdvanced

/-- The end cause is written, the renewal timer stops and the token becomes absent (R111). -/
def GateSeq.endCause (cause : EndCause) (q : GateSeq) : GateSeq :=
  { q with renewal := Timer.stopped, token := none
           record := q.record.map (fun r => { r with endCause := some cause }) }

/-- The sequencer in the closing stroke (R106, R111). -/
def GateSeq.beginClosing (strokeMs : Nat) (q : GateSeq) : GateSeq :=
  { q with state := .closing, stroke := Timer.start strokeMs }

/-- The stroke limit in ms. -/
def State.strokeMs (s : State) : Nat := seconds s.prof.strokeLimit

/-- The closing stroke begins; a gate already proven closed goes on to CLOSED (R111). -/
def State.beginClosing (g : Gate) (s : State) : State :=
  let t := s.updateGate g (GateSeq.beginClosing s.strokeMs)
  if t.provenClosed g then t.enterClosed g else t

/-- A draw in WARNING, OPENING or OPEN ends with a cause; in other states there is none to end (R111). -/
def State.endDraw (cause : EndCause) (g : Gate) (s : State) : State :=
  let t := s.updateGate g (GateSeq.endCause cause)
  match (s.gate g).state with
  | .warning => t.enterClosed g
  | .opening => t.beginClosing g
  | .opened => (t.stopWindow g).beginClosing g
  | .closed | .closing | .fault _ => s

/-! ## Opening -/

/-- The gate enters OPENING; its dribble period closes (R109). -/
def GateSeq.beginOpening (strokeMs : Nat) (q : GateSeq) : GateSeq :=
  { q with state := .opening, warning := Timer.stopped, stroke := Timer.start strokeMs, dribble := ⟨false, false⟩ }

/-- Entry into OPENING (R109). -/
def State.beginOpening (g : Gate) (s : State) : State := s.updateGate g (GateSeq.beginOpening s.strokeMs)

/-- The end cause that mass this draw meets in OPEN: the target, then the wet cap (R110, R123). -/
def GateSeq.massCause (q : GateSeq) : Option EndCause :=
  match q.mode, q.wetCap with
  | some (.batch target), cap =>
    if target ≤ q.mass then some .batchDone
    else match cap with
      | some c => if c ≤ q.mass then some .wetLimit else none
      | none => none
  | _, some c => if c ≤ q.mass then some .wetLimit else none
  | _, none => none

/-- A draw ends with a cause, if there is one. -/
def State.endDrawIf (cause : Option EndCause) (g : Gate) (s : State) : State :=
  match cause with
  | some c => s.endDraw c g
  | none => s

/-! ## What a column change does at the gates (R19, R53, R121) -/

/-- A draw newly under a wet status: RESTRICTED gives it a wet cap where it has none; REFUSED flags its record
(R53). -/
def GateSeq.noteWet (status : WetStatus) (limit : Nat) (q : GateSeq) : GateSeq :=
  if q.state.drawing then
    match status with
    | .clear => q
    | .restricted =>
      if q.wetCap.isNone then { q.onRecord (fun r => { r with wetRestricted := true }) with wetCap := some limit }
      else q
    | .refused => q.onRecord (fun r => { r with wetRestricted := true })
  else q

/-- Both gates of a DRAW station take a wet status that changed since `before` (R53). -/
def State.noteWet (s before : State) : State :=
  if before.watch.wet = s.watch.wet ∨ s.straps.role = .tip then s
  else (s.updateGate .a (GateSeq.noteWet s.watch.wet s.prof.wetDrawLimit)).updateGate .b
    (GateSeq.noteWet s.watch.wet s.prof.wetDrawLimit)

/-- A wet status that changed since `before` ends the gate's draw: REFUSED always, RESTRICTED where it newly gave
a wet cap that the mass has reached (R53). -/
def State.wetEnds (s before : State) (g : Gate) : Bool :=
  before.watch.wet != s.watch.wet &&
  match s.watch.wet with
  | .clear => false
  | .restricted => (before.gate g).wetCap.isNone && decide (s.prof.wetDrawLimit ≤ (s.gate g).mass)
  | .refused => true

/-- The column stands at or below the cushion after a change since `before` (R121). -/
def State.cushionEnds (s before : State) : Bool :=
  columnChanged before s && decide (s.columnVolume ≤ s.prof.cushion)

/-- The end cause a gate's draw meets through the column model's inform, in the order of R111. -/
def State.informedCause (s before : State) (g : Gate) : Option EndCause :=
  if s.wetEnds before g then some .wetLimit
  else if s.cushionEnds before then some .cushion
  else none

/-- The gate sequencers act on a change of the column since `before` (R19, R53, R121), gate A first: DESIGN CHOICE
(notes/assumptions/44.md). -/
def State.informGates (s before : State) : State :=
  let t := s.noteWet before
  (t.endDrawIf (t.informedCause before .a) .a).endDrawIf (t.informedCause before .b) .b

end Sys2Proof.Machine
end

