-- ==== Sys2Proof/Machine/HoldOps.lean ====
section
/-! DEFINITION. The hold list: additions, changes, removals, their frames and their effects (R56 to R74); the own
HALT's causes (R60 to R64); and the gate faults that add one (R62, R113 to R115, R122). -/

namespace Sys2Proof.Machine

/-! ## Effects (R72 to R74) -/

/-- A HALT or own ENTRY ends breaker work and withdraws the tip; a HANGUP withdraws the tip; a peer's ENTRY does
nothing at a TIP station (R73). -/
def State.tipHoldEffects (holder : Nat) (kind : HoldKind) (s : State) : State :=
  match kind with
  | .halt => (s.withdrawTip .hold).endBreakerWork .hold
  | .entry => if holder = s.own then (s.withdrawTip .hold).endBreakerWork .hold else s
  | .hangup => s.withdrawTip .hold

/-- Any entry ends both gates' draws (R74). That gate A's ends first is DESIGN CHOICE: no rule orders the gates
(notes/assumptions/44.md). -/
def State.gateHoldEffects (s : State) : State := (s.endDraw .hold .a).endDraw .hold .b

/-- The sequencers apply an added or changed entry (R72). -/
def State.holdEffects (holder : Nat) (kind : HoldKind) (s : State) : State :=
  match s.straps.role with
  | .tip => s.tipHoldEffects holder kind
  | .draw => s.gateHoldEffects

/-! ## Changes of the list (R57, R59, R66 to R68) -/

/-- A hold frame is queued while the line is ACTIVE in a mode other than SAFE (R59). -/
def State.queueHold (f : Frame) (s : State) : State :=
  if s.line.state = .active ∧ s.mode ≠ .safe then s.handOver f else s

/-- A change of the own entries is reported, a peer's is not (R59). -/
def State.reportHold (holder : Nat) (f : Frame) (s : State) : State :=
  if holder = s.own then s.queueHold f else s

/-- The list with an entry's fields replaced; place and since stand (R57). -/
def replaceHold (holder : Nat) (body : HoldBody) (l : List Hold) : List Hold :=
  l.map (fun h => if h.isOf holder body.kind then { h with body := body } else h)

/-- The list changed to `l` by this entry: HOLD-CHANGE, the frame, the effects (R59, R72). That the own HOLD-SET is
handed over before the effects is DESIGN CHOICE: no rule orders the two (notes/assumptions/41.md). -/
def State.holdChanged (holder : Nat) (body : HoldBody) (l : List Hold) (s : State) : State :=
  ((State.mark .holdChange (s.setHolds l)).reportHold holder (.holdSet body)).holdEffects holder body.kind

/-- An entry is added at the end, or its fields are replaced; one that stands as given changes nothing (R57,
R66). -/
def State.enterHold (holder : Nat) (body : HoldBody) (s : State) : State :=
  match s.holdOf holder body.kind with
  | none => s.holdChanged holder body (s.holds ++ [⟨holder, s.time, body⟩])
  | some h => if h.body = body then s else s.holdChanged holder body (replaceHold holder body s.holds)

/-- An entry leaves the list; the sequencers are not told (R67, R72). -/
def State.removeHold (holder : Nat) (kind : HoldKind) (s : State) : State :=
  if (s.holdOf holder kind).isSome then
    (State.mark .holdChange (s.setHolds (s.holds.filter (fun h => !h.isOf holder kind)))).reportHold holder
      (.holdLift kind)
  else s

/-- A peer's entry of one kind is made to match what its STATE lists (R68). -/
def State.reconcileHold (holder : Nat) (kind : HoldKind) (listed : Option HoldBody) (s : State) : State :=
  match listed with
  | some body => s.enterHold holder body
  | none => s.removeHold holder kind

/-- A peer's entries are made to match its STATE, HALT, ENTRY, HANGUP in order (R68). -/
def State.reconcileHolds (holder : Nat) (p : StatePayload) (s : State) : State :=
  ((s.reconcileHold holder .halt (stateHaltBody p)).reconcileHold holder .entry (stateEntryBody p)).reconcileHold
    holder .hangup (stateHangupBody p)

/-! ## The own HALT (R60 to R64) -/

/-- A cause is added to the own HALT; in STARTING it is kept for the restart HALT (R62, R162,
notes/assumptions/8.md). -/
def State.addOwnCause (c : Causes) (s : State) : State :=
  if s.mode = .starting then s.setRestartCauses (s.restartCauses.union c)
  else s.enterHold s.own (.halt (s.ownCauses.union c))

/-! ## Gate faults (R113 to R115, R122) -/

/-- The sequencer at rest in FAULT; a draw in hand is completed with outcome FAULT (R115). -/
def GateSeq.fail (cause : GateFault) (time : Nat) (q : GateSeq) : GateSeq :=
  { q with state := .fault cause, mode := none, wetCap := none, token := none
           warning := Timer.stopped, stroke := Timer.stopped, renewal := Timer.stopped, dribble := ⟨true, false⟩
           record := if q.state.inHand then q.record.map (fun r => { r with outcome := some (false, time) })
                     else q.record }

/-- Entry into FAULT, but for the HALT cause: the draw in hand is completed (R115). -/
def State.failGate (cause : GateFault) (g : Gate) (s : State) : State :=
  let t := State.mark .fault ((s.stopOpenWindow g).updateGate g (GateSeq.fail cause s.time))
  if (s.gate g).state.inHand then ((t.mark .drawEnd).startWetRest (s.gate g).wetRecord).formDrawnIfAdvanced
  else t

/-- A gate in FAULT that is not proven closed adds GATE-FAULT (R62, R115). -/
def State.reportUnproven (g : Gate) (s : State) : State :=
  if s.provenClosed g then s else s.addOwnCause Causes.ofGateFault

/-- Entry into FAULT (R115). That the DRAWN of the draw in hand is handed over before GATE-FAULT joins the HALT is
DESIGN CHOICE: no rule orders the two (notes/assumptions/45.md). -/
def State.enterFault (cause : GateFault) (g : Gate) (s : State) : State := (s.failGate cause g).reportUnproven g

/-- A draw stopped by the loop takes STOP-LOOP as its end cause (R122); its renewal timer stops and its token is
cleared, as R111 has it for every other cause: DEDUCED (notes/assumptions/42.md). -/
def State.loopEndsDraw (g : Gate) (s : State) : State :=
  if (s.gate g).state.drawing then s.updateGate g (GateSeq.endCause .stopLoop) else s

/-- The stop loop opens at a gate: CLOSED where proven, otherwise FAULT (R122). The HALT cause of the fault
follows for both gates. -/
def State.gateLoopOpens (g : Gate) (s : State) : State :=
  if (s.gate g).state.inHand then
    if s.provenClosed g then ((s.loopEndsDraw g).stopOpenWindow g).enterClosed g
    else if (s.gate g).state = .warning then s.failGate .gateDrift g
    else (s.loopEndsDraw g).failGate .loopOpen g
  else s

/-- A gate that the opening left in FAULT adds GATE-FAULT (R122). -/
def State.reportLoopFault (s before : State) (g : Gate) : State :=
  if (before.gate g).state.inHand then s.reportUnproven g else s

/-- The stop loop opens at the gate sequencers and the hold list: the table of R122 for both gates, then
STOP-LOOP, then GATE-FAULT (R61, R122, notes/assumptions/14.md). -/
def State.drawLoopOpens (s : State) : State :=
  ((((s.gateLoopOpens .a).gateLoopOpens .b).addOwnCause Causes.ofStopLoop).reportLoopFault s .a).reportLoopFault s .b

/-- The stop loop opens at the breaker sequencer and the hold list (R61, R102, notes/assumptions/14.md). -/
def State.tipLoopOpens (s : State) : State := s.breakerLoopOpens.addOwnCause Causes.ofStopLoop

end Sys2Proof.Machine
end

