-- ==== Sys2Proof/Machine/WatchOps.lean ====
section
/-! DEFINITION. Shared operations of the watch unit: the ranging test, the own HANGUP, the starvation test (R41 to
R50), and own readings while the line is ISOLATED (R34). -/

namespace Sys2Proof.Machine

/-! ## The own HANGUP -/

/-- The last gap estimate takes a reading's gap volume V_t − V_col, surface and time (R44, R46). -/
def State.setGap (depth : Nat) (s : State) : State :=
  s.setWatch { s.watch with gap := some ⟨(s.target depth : Int) - s.columnVolume, depth, s.time⟩ }

/-- The body of a RANGING hang-up raised on a reading (R44). -/
def State.rangingBody (depth : Nat) (s : State) : HoldBody :=
  .ranging ((s.target depth : Int) - s.columnVolume) depth

/-- A RANGING hang-up is raised (R44). -/
def State.raiseRanging (depth : Nat) (s : State) : State :=
  State.mark .hangup ((s.setGap depth).enterHold s.own (s.rangingBody depth))

/-- A STARVED hang-up is raised, unless the own HANGUP already stands (R49). -/
def State.raiseStarved (g : Gate) (s : State) : State :=
  if (s.holdOf s.own .hangup).isSome then s
  else State.mark .hangup (s.enterHold s.own (.starved g))

/-- The own HANGUP leaves the list, the gap estimate with it (R47, R50). -/
def State.liftHangup (s : State) : State :=
  let t := s.removeHold s.own .hangup
  State.mark .hangup (t.setWatch { t.watch with gap := none })

/-! ## Readings (R33, R41 to R46) -/

/-- The body is a RANGING hang-up. -/
def HoldBody.isRanging : HoldBody → Bool
  | .ranging .. => true
  | .halt _ | .entry | .starved _ => false

/-- What the watch unit decides for a reading. -/
inductive Decision where
  | reanchor | reanchorAndLift | hold | holdAndGap | holdAndRaise
deriving DecidableEq, Repr

/-- The ranging test: Δ, the thresholds, whether the reading is the station's own, and the sender's HANGUP entry
in this station's list (R42, R43, R45, R46). -/
def rangingDecision (delta : Int) (tTol tHang : Nat) (own : Bool) (entry : Option HoldBody) : Decision :=
  match entry with
  | some body =>
    if delta < tTol then (if own && body.isRanging then .reanchorAndLift else .reanchor)
    else if own && body.isRanging then .holdAndGap else .hold
  | none =>
    if delta < tHang then .reanchor
    else if own then .holdAndRaise else .hold

/-- The decision of this station on a reading (R41). -/
def State.rangingTest (sender depth : Nat) (s : State) : Decision :=
  rangingDecision (s.delta depth) s.prof.tTol s.prof.tHang (sender == s.own) ((s.holdOf sender .hangup).map Hold.body)

/-- The column model re-anchors and records the reading (R30 to R33). -/
def State.reanchorReading (sender depth : Nat) (q : Quality) (s : State) : State :=
  (s.reanchor depth).recordReading depth q sender .reAnchored

/-- A reading is recorded as HELD (R46). -/
def State.holdReading (sender depth : Nat) (q : Quality) (s : State) : State :=
  s.recordReading depth q sender .held

/-- A reading is taken by a SEEDED model as decided (R42 to R47). -/
def State.applyDecision (d : Decision) (sender depth : Nat) (q : Quality) (s : State) : State :=
  match d with
  | .reanchor => s.reanchorReading sender depth q
  | .reanchorAndLift => (s.reanchorReading sender depth q).liftHangup
  | .hold => s.holdReading sender depth q
  | .holdAndGap => (s.holdReading sender depth q).setGap depth
  | .holdAndRaise => (s.holdReading sender depth q).raiseRanging depth

/-- A SURFACE frame is taken by the column model (R33). -/
def State.takeSurface (sender depth : Nat) (q : Quality) (s : State) : State :=
  if s.column.seeded then
    match q with
    | .manual => s.reanchorReading sender depth q
    | .numeric _ => s.applyDecision (s.rangingTest sender depth) sender depth q
  else (s.seedSurface depth).recordReading depth q sender .seeded

/-- An own SURFACE is handed over; while ISOLATED it is taken at once as an own arrival (R34, R138). -/
def State.handOverSurface (depth : Nat) (q : Quality) (s : State) : State :=
  if s.line.state = .isolated then s.takeSurface s.own depth q else s.handOver (.surface depth q)

/-! ## Isolation and failed attempts (R130, R137 to R139) -/

/-- A frame removed at isolation: a SURFACE is taken at once as an own arrival (R34), any other is lost (R136). -/
def State.removedAtIsolation (f : Frame) (s : State) : State :=
  match f with
  | .surface depth q => s.takeSurface s.own depth q
  | .holdSet _ | .holdLift _ | .offer .. | .withdraw _ | .tipped .. | .drawn .. | .state _ => s.frameLost f

/-- The frame is a STATE. -/
def QueuedFrame.isState (q : QueuedFrame) : Bool := q.frame.kind == .state

/-- The line controller's part of the entry into ISOLATED (R138). -/
def Line.isolate (l : Line) : Line :=
  { l with state := .isolated
           queue := (l.queue.filter QueuedFrame.isState).map (fun q => { q with attempts := 0 })
           waiting := l.waiting.filter (·.kind == .state)
           consecutive := 0
           retryTimer := Timer.start Config.isolationRetry, retryDue := false
           lastReason := some .isolated }

/-- The line becomes ISOLATED: a REQUESTED or OFFERED tip is withdrawn with LINE (R85), and each frame but STATE is
removed and acts on its producer (R138). That they act oldest first is DESIGN CHOICE: no rule gives the order, and the
column depends on it (notes/assumptions/40.md). -/
def State.enterIsolated (s : State) : State :=
  let removed := (s.line.queue.filter (fun q => !q.isState)).map (·.frame)
  removed.foldl (fun t f => t.removedAtIsolation f)
    ((State.mark .line (s.setLine s.line.isolate)).withdrawTip .line)

/-- The counters after one more failed attempt (R132). -/
def LineCounters.oneFailure (c : LineCounters) : LineCounters := { c with transmitErrors := bump16 c.transmitErrors }

/-- A frame's attempt count after a failure. -/
def QueuedFrame.charge (q : QueuedFrame) : QueuedFrame := { q with attempts := q.attempts + 1 }

/-- A failed attempt while ISOLATED: the retry timer starts again, no attempt is charged (R139). -/
def State.failRetry (s : State) : State :=
  (s.setLine { s.line with retryTimer := Timer.start Config.isolationRetry, retryDue := false }).settleWaiting

/-- The third discard in a row isolates an ACTIVE line (R137). -/
def State.isolateAtThird (s : State) : State :=
  if Config.isolatingDiscards ≤ s.line.consecutive ∧ s.line.state = .active then s.enterIsolated else s

/-- A frame is discarded (R136, R137). -/
def State.discard (p : QueuedFrame → Bool) (f : Frame) (s : State) : State :=
  ((s.setLine { s.line with
      queue := s.line.queue.eraseP p, consecutive := s.line.consecutive + 1
      counters := { s.line.counters with discards := bump16 s.line.counters.discards } }).frameLost f).isolateAtThird

/-- The first frame that `p` picks is charged a failed attempt; at the sixteenth it is discarded (R130, R137,
R139). -/
def State.failAttempt (p : QueuedFrame → Bool) (s : State) : State :=
  match s.line.queue.find? p with
  | none => s
  | some q =>
    let t := s.setLine { s.line with counters := s.line.counters.oneFailure }
    if t.line.state = .isolated then (t.setLine t.line.stopDriving).failRetry
    else if Config.maxAttempts ≤ q.attempts + 1 then
      ((t.setLine { t.line with wire := none }).discard p q.frame).settleWaiting
    else
      (t.setLine { t.line with queue := modifyFirst p QueuedFrame.charge t.line.queue }.stopDriving).settleWaiting

end Sys2Proof.Machine
end

