-- ==== Sys2Proof/Machine/PeerOps.lean ====
section
/-! DEFINITION. What comes of a received frame before its blocks take it: the number test, the peer record, the
catch-up figures, and the roll-call (R142 to R157). -/

namespace Sys2Proof.Machine

/-! ## Sequence and presence (R144, R148) -/

/-- The gap a sequence shows after the last one (R144). -/
def sequenceGap (last : Option Nat) (seq : Nat) : Nat :=
  match last with
  | none => 0
  | some l => if seq = 0 ∨ seq = l then 0 else (seq + 256 - l - 1) % 256

/-- The silence timeout in ms: three STATE periods (R148). -/
def State.silenceMs (s : State) : Nat := Config.silencePeriods * s.prof.statePeriod

/-- The record after an arrival with this sequence at this time (R144, R147 steps 1 and 2). -/
def PeerRecord.heard (seq time silenceMs : Nat) (r : PeerRecord) : PeerRecord :=
  { r with lastSeq := some seq, gapCount := min (r.gapCount + sequenceGap r.lastSeq seq) Config.maxGap
           presence := .present, silence := Timer.start silenceMs, lastArrival := some time }

/-- A gap, or a presence other than PRESENT, makes an arrival mark PEER-CHANGE (R144, R148). -/
def PeerRecord.arrivalMarks (seq : Nat) (r : PeerRecord) : Bool :=
  sequenceGap r.lastSeq seq != 0 || r.presence != .present

/-- A peer's record is changed. -/
def State.updatePeer (station : Nat) (f : PeerRecord → PeerRecord) (s : State) : State :=
  s.setPeers { s.peers with records := s.peers.records.map (fun r => if r.station = station then f r else r) }

/-- An event kind is marked where a condition holds. -/
def State.markIf (c : Bool) (k : EventKind) (s : State) : State := if c then s.mark k else s

/-- The counters of the line controller are changed. -/
def State.count (f : LineCounters → LineCounters) (s : State) : State :=
  s.setLine { s.line with counters := f s.line.counters }

/-- The peer table takes an arrival by its sequence and presence (R147 steps 1 and 2), counted as received. -/
def State.heard (station seq : Nat) (s : State) : State :=
  let marks := ((s.peer station).map (PeerRecord.arrivalMarks seq)).getD false
  ((s.count (fun c => { c with received := bump16 c.received })).updatePeer station
    (PeerRecord.heard seq s.time s.silenceMs)).markIf marks .peerChange

/-! ## The number test (R142) -/

/-- The last line reason is set and LINE marked (R145). -/
def State.lineEvent (r : LineReason) (s : State) : State :=
  State.mark .line (s.setLine { s.line with lastReason := some r })

/-- A received frame bears this station's own number (R63, R142). -/
def State.ownNumberFrame (s : State) : State :=
  let t := s.count (fun c => { c with ownNumber := bump16 c.ownNumber })
  let u := if s.ownCauses.duplicate then t else t.lineEvent .duplicate
  u.addOwnCause Causes.ofDuplicate

/-- A received frame bears an unconfigured number (R142). -/
def State.strangerFrame (s : State) : State :=
  let t := s.count (fun c => { c with strangers := bump16 c.strangers })
  if s.line.strangerReported then t
  else (t.setLine { t.line with strangerReported := true }).lineEvent .stranger

/-- The kind is not defined, or does not suit the sender's role (R132, R147). -/
def State.unsuitedFrame (s : State) : State :=
  s.count (fun c => { c with unknownKinds := bump16 c.unknownKinds })

/-- Every kind suits a role that the table does not give (R147). -/
def suitsAny (_ : Option Role) : Bool := true
/-- OFFER and TIPPED do not suit a DRAW station (R147). -/
def suitsTip (r : Option Role) : Bool := r != some .draw
/-- DRAWN does not suit a TIP station (R147). -/
def suitsDraw (r : Option Role) : Bool := r != some .tip

/-- A received frame: nothing is taken while OFFLINE (R140); the number test (R142); the peer table (R147); then,
where the kind suits the role, `table` in every mode and `blocks` in every mode but SAFE (R131, R147). -/
def State.received (h : Header) (suits : Option Role → Bool) (table blocks : Nat → State → State) (s : State) :
    State :=
  if s.line.state = .offline then s
  else if h.station.toNat = s.own then s.ownNumberFrame
  else if s.isPeer h.station.toNat then
    let t := s.heard h.station.toNat h.seq.toNat
    if suits (s.peerRole h.station.toNat) then
      let u := table h.station.toNat t
      if u.mode = .safe then u else blocks h.station.toNat u
    else t.unsuitedFrame
  else s.strangerFrame

/-- No part of the peer table beyond R147 steps 1 and 2. -/
def noTablePart (_ : Nat) (s : State) : State := s

/-! ## Last STATE and mismatch (R147 step 3, R150) -/

/-- The frame's digest is not this station's digest in force (R150). -/
def State.digestDiffers (p : StatePayload) (s : State) : Bool :=
  !(p.digestPresent && s.profile.isSome && p.digest.toNat == s.prof.digest)

/-- The peer table takes a STATE: last STATE and mismatch flag (R147, R150). -/
def State.takePeerState (p : StatePayload) (station : Nat) (s : State) : State :=
  (s.updatePeer station
    (fun r => { r with lastState := some (p, s.time), mismatch := s.digestDiffers p })).markIf
    (s.mismatched station != s.digestDiffers p) .profile

/-! ## Baselines and catch-up figures (R155 to R157) -/

/-- The base a counter is set against: none where the baseline is absent, 0 in a new generation (R155). -/
def Baseline.against (generation : Nat) (b : Option Baseline) : Option Nat :=
  b.map (fun x => if x.generation = generation then x.counter else 0)

/-- The increase of a counter over its base, and the counter the baseline then holds (R155 to R157). -/
def counterRise (base : Option Nat) (counter : Nat) : Nat × Nat :=
  match base with
  | none => (0, counter)
  | some b => if b < counter then (counter - b, counter) else (0, b)

/-- What a TIPPED hands to the column: the missing volume where the tip is taken, none for a duplicate (R155,
R156). -/
def missingBefore (base : Option Nat) (counter volume : Nat) : Option Nat :=
  match base with
  | none => some 0
  | some b => if b < counter then some (counter - volume - b) else none

/-- A peer's baseline. -/
def State.baselineOf (station : Nat) (s : State) : Option Baseline := (s.peer station).bind (·.baseline)

/-- A peer's base against a generation (R155). -/
def State.baseOf (station generation : Nat) (s : State) : Option Nat :=
  Baseline.against generation (s.baselineOf station)

/-- A peer's baseline advances (R155 to R157). -/
def State.advanceBaseline (station generation counter : Nat) (s : State) : State :=
  s.updatePeer station (fun r =>
    { r with baseline := some ⟨generation, (counterRise (s.baseOf station generation) counter).2⟩ })

/-- The load a TIPPED frame carries (R23, R186). -/
def tippedLoad (p : TippedPayload) : Load :=
  ⟨p.cls.toNat, p.volume.toNat, moistureRead p.moisture, p.flags.getLsbD 0, p.flags.getLsbD 1, p.flags.getLsbD 2⟩

/-- The layers of a peer's TIPPED: the catch-up, then the tip; none for a duplicate (R23). -/
def tippedLayers (station : Nat) (missing : Option Nat) (load : Load) : List Segment :=
  match missing with
  | some v => [catchUpSegment station v, tipSegment station load]
  | none => []

/-- A peer's TIPPED: baseline, column, reservation (R23, R91, R156). -/
def State.takeTipped (p : TippedPayload) (station : Nat) (s : State) : State :=
  (((s.advanceBaseline station p.generation.toNat p.cumulative.toNat).addLayers
    (tippedLayers station
      (missingBefore (s.baseOf station p.generation.toNat) p.cumulative.toNat p.volume.toNat)
      (tippedLoad p)))).dropReservation station

/-- The DRAW peer's DRAWN: the last draw report, the baseline, the draw increment (R147 step 4, R157). -/
def State.takeDrawn (p : DrawnPayload) (station : Nat) (s : State) : State :=
  ((s.updatePeer station (fun r =>
      { r with lastDraw := some ⟨p.flags.getLsbD 0, p.flags.getLsbD 1, p.flags.getLsbD 2⟩ })).advanceBaseline station
    p.generation.toNat p.cumulative.toNat).drawIncrement
    (counterRise (s.baseOf station p.generation.toNat) p.cumulative.toNat).1

/-- A peer's SURFACE: ignored from a mismatched peer, and where the quality has no meaning (R33, R186). -/
def State.takePeerSurface (p : SurfacePayload) (station : Nat) (s : State) : State :=
  match qualityOf p.quality with
  | none => s
  | some q => if s.mismatched station then s else s.takeSurface station p.depth.toNat q

/-- The STATE seeds this model (R35). -/
def State.seedsFrom (p : StatePayload) (station : Nat) (s : State) : Bool :=
  !s.column.seeded && p.modelSeeded && !s.mismatched station

/-- The column model's part of a STATE: the seed, or the catch-up (R26, R29, R36). -/
def State.columnFromState (p : StatePayload) (station rise : Nat) (s : State) : State :=
  if s.seedsFrom p station then s.seedState p.columnVolume.toNat p.wetVolume.toNat
  else
    match s.peerRole station with
    | some .tip => s.addLayers [catchUpSegment station rise]
    | some .draw => s.drawIncrement rise
    | none => s

/-- The reservation list's part of a STATE: a TIP peer's alone (R91). -/
def State.reservationFromState (p : StatePayload) (station : Nat) (s : State) : State :=
  if s.peerRole station = some .tip then s.reconcileReservation station (stateReservation p) else s

/-! ## The roll-call (R151, R152) -/

/-- The roll-call ends: READY, the timer stopped (R152). -/
def State.endRollCall (s : State) : State :=
  (s.setPeers { s.peers with rollCall := Timer.stopped }).setMode .ready

/-- The roll-call ends at a STATE after which every record has answered (R152). -/
def State.rollCallAnswered (s : State) : State :=
  if s.mode = .listening ∧ s.allAnswered then s.endRollCall else s

/-- A record still UNHEARD as the roll-call runs out (R148, R152). -/
def PeerRecord.runsOut (r : PeerRecord) : PeerRecord :=
  if r.presence = .unheard then { r with presence := .silent } else r

/-- A peer's STATE at the lists, the column and the roll-call (R131, R147). -/
def State.takeState (p : StatePayload) (station : Nat) (s : State) : State :=
  ((((s.advanceBaseline station p.generation.toNat p.counter.toNat).columnFromState p station
      (counterRise (s.baseOf station p.generation.toNat) p.counter.toNat).1).noteWet s).reconcileHolds station p
    |>.reservationFromState p station).rollCallAnswered

end Sys2Proof.Machine
end

