-- ==== Sys2Proof/Machine/Ops.lean ====
section
/-! DEFINITION. What ends every event (R19, R83, R91), the field edges (R161 to R163), and the frame of a panel
request (R171). -/

namespace Sys2Proof.Machine

/-- What a command answers: every command of this part goes on to a next state. -/
abbrev Result := Host.Outcome State Fault Refusal

/-! ## The end of an event -/

/-- The column or the reservation list changed since `before` (R83). -/
def State.roomChanged (s before : State) : Bool :=
  columnChanged before s || before.reservations != s.reservations

/-- The sequencers act on what the column model and the reservation list tell them, once per event, after both
have taken their parts (R19, R53, R83, R91, R121). -/
def State.inform (s before : State) : State :=
  match s.straps.role with
  | .tip => if s.roomChanged before then s.recheckTip else s
  | .draw => s.informGates before

/-- An event: what it does, then what the sequencers make of it. -/
def event (act : State → State) (s : State) : Result := .next ((act s).inform s)

/-! ## Field edges (R161 to R163) -/

/-- The conditioned state of an input is replaced. -/
def State.setConditioned (i : InputNo) (active : Bool) (s : State) : State :=
  s.setField { s.field with inputs := s.field.inputs.set i { s.field.inputs[i] with conditioned := some active } }

/-- The raw level that reads as this state, after polarity (R161). -/
def State.rawFor (i : InputNo) (active : Bool) (s : State) : Bool := active != s.inverted i

/-- The raw level of an input is replaced. -/
def State.setRaw (i : InputNo) (raw : Bool) (s : State) : State :=
  s.setField { s.field with inputs := s.field.inputs.set i { s.field.inputs[i] with raw := raw } }

/-- The conditioned and raw state of an input after an edge. -/
def State.takeEdge (i : InputNo) (active : Bool) (s : State) : State :=
  (s.setConditioned i active).setRaw i (s.rawFor i active)

/-- An edge of an input that has this function, handed to its block with the new conditioned state standing; where
the input stands there already, or has no conditioned state yet, no edge arises (R161, R162). -/
def State.edge (fn : InputFunction) (i : InputNo) (active : Bool) (act : State → State) (s : State) : State :=
  if inputFunction s.straps.role i = fn ∧ s.conditioned i = some (!active) then act (s.takeEdge i active) else s

/-- A block takes its part in LISTENING and READY alone (R163). -/
def State.whenLive (act : State → State) (s : State) : State := if s.mode.live then act s else s

/-! ## The panel port (R171) -/

/-- The answer of the port. -/
def State.giveAnswer (code : Nat) (b : AnswerBody) (s : State) : State :=
  s.setPort { s.port with answer := some ⟨code, b⟩ }

/-- The answer to the first test that fails, in order; a test carries whether it passes. -/
def firstFailing : List (Bool × AnswerBody) → Option AnswerBody
  | [] => none
  | (passes, answer) :: rest => if passes then firstFailing rest else some answer

/-- What an acceptance rule says of a request: refused by the first test that fails, with no other effect, or
taken. -/
def State.accept (tests : List (Bool × AnswerBody)) (body : AnswerBody) (effect : State → State) (s : State) :
    AnswerBody × State :=
  match firstFailing tests with
  | some answer => (answer, s)
  | none => (body, (effect s).inform s)

/-- A request goes to its acceptance rule, and the answer is given; STARTING answers BUSY (R171); once a RESTART
is answered the port takes no further request (R184). -/
def State.request (code : Nat) (tests : List (Bool × AnswerBody)) (body : AnswerBody) (effect : State → State)
    (s : State) : State :=
  if s.port.restartPending then s
  else if s.mode = .starting then s.giveAnswer code .busy
  else
    let r := s.accept tests body effect
    r.2.giveAnswer code r.1

/-! ## Tests that many requests share -/

/-- The role is TIP, else WRONG-ROLE. -/
def State.testTipRole (s : State) : Bool × AnswerBody := (s.straps.role == .tip, .refused .wrongRole)
/-- The role is DRAW, else WRONG-ROLE. -/
def State.testDrawRole (s : State) : Bool × AnswerBody := (s.straps.role == .draw, .refused .wrongRole)
/-- The mode is READY, else NOT-READY. -/
def State.testReady (s : State) : Bool × AnswerBody := (s.mode == .ready, .refused .notReady)
/-- The mode is LISTENING or READY, else NOT-READY. -/
def State.testLive (s : State) : Bool × AnswerBody := (s.mode.live, .refused .notReady)
/-- No HALT of any holder stands, else HALTED. -/
def State.testNoHalt (s : State) : Bool × AnswerBody := (!s.anyHold .halt, .refused .halted)
/-- No own ENTRY stands, else ENTRY-HELD. -/
def State.testNoOwnEntry (s : State) : Bool × AnswerBody := ((s.holdOf s.own .entry).isNone, .refused .entryHeld)
/-- No ENTRY of any holder stands, else ENTRY-HELD. -/
def State.testNoEntry (s : State) : Bool × AnswerBody := (!s.anyHold .entry, .refused .entryHeld)
/-- No HANGUP of any holder stands, else HANGUP-HELD. -/
def State.testNoHangup (s : State) : Bool × AnswerBody := (!s.anyHold .hangup, .refused .hangupHeld)
/-- The column model is SEEDED, else MODEL-UNSEEDED. -/
def State.testSeeded (s : State) : Bool × AnswerBody := (s.column.seeded, .refused .modelUnseeded)
/-- The line state is ACTIVE, else ISOLATED. -/
def State.testActiveLine (s : State) : Bool × AnswerBody := (s.line.state == .active, .refused .isolated)
/-- The station holds its own entry of a kind, else NOT-HELD. -/
def State.testHeld (kind : HoldKind) (s : State) : Bool × AnswerBody :=
  ((s.holdOf s.own kind).isSome, .refused .notHeld)
/-- The commissioning window is open, else WINDOW-CLOSED. -/
def State.testWindow (s : State) : Bool × AnswerBody := (s.port.window, .refused .windowClosed)
/-- No store write is in progress, else BUSY. -/
def State.testNotWriting (s : State) : Bool × AnswerBody := (s.store.write != .writing, .busy)

end Sys2Proof.Machine
end

