-- ==== Sys2Proof/Machine/Arrivals.lean ====
section
/-! DEFINITION. The meanings of the arrivals on the shaft line, own and received (R131, R141, R142, R147, and the
rules of each kind). -/

namespace Sys2Proof.Machine

/-- An own arrival at its blocks, or a received frame through the number test and the peer table. -/
def State.arrival (f : Inbound α) (k : FrameKind) (act : Frame → State → State) (suits : Option Role → Bool)
    (table blocks : α → Nat → State → State) (s : State) : State :=
  match f with
  | .own => s.ownArrival k act
  | .received h p => s.received h suits (table p) (blocks p)

/-- Nothing for any payload: the part of the peer table beyond R147 steps 1 and 2, where the kind has none. -/
def noTable (_ : α) (_ : Nat) (s : State) : State := s

/-- An own arrival that changes no list (R58, R125, R154). -/
def noOwnPart (_ : Frame) (s : State) : State := s

/-- HOLD-SET at the hold list (R66). -/
def takeHoldSet (p : HoldSetPayload) (station : Nat) (s : State) : State :=
  match holdBodyOf p with
  | some body => s.enterHold station body
  | none => s

/-- Arrival of HOLD-SET (R58, R66). -/
def execHoldSetArrival (f : Inbound HoldSetPayload) (s : State) : Result :=
  event (State.arrival f .holdSet noOwnPart suitsAny noTable takeHoldSet) s

/-- HOLD-LIFT at the hold list (R67). -/
def takeHoldLift (kind : Byte) (station : Nat) (s : State) : State :=
  match holdKindOf kind with
  | some k => s.removeHold station k
  | none => s

/-- Arrival of HOLD-LIFT (R58, R67). -/
def execHoldLiftArrival (f : Inbound Byte) (s : State) : Result :=
  event (State.arrival f .holdLift noOwnPart suitsAny noTable takeHoldLift) s

/-- OFFER at the reservation list (R90). -/
def takeOffer (p : OfferPayload) (station : Nat) (s : State) : State :=
  s.judgeOffer station p.cls.toNat p.volume.toNat

/-- The own OFFER at the reservation list, then at the tip sequencer (R78, R90). -/
def takeOwnOffer (f : Frame) (s : State) : State :=
  match f with
  | .offer cls volume _ => (s.judgeOffer s.own cls volume).ownOfferJudged
  | .holdSet _ | .holdLift _ | .withdraw _ | .tipped .. | .drawn .. | .surface .. | .state _ => s

/-- Arrival of OFFER (R78, R90). -/
def execOfferArrival (f : Inbound OfferPayload) (s : State) : Result :=
  event (State.arrival f .offer takeOwnOffer suitsTip noTable takeOffer) s

/-- WITHDRAW at the reservation list; its cause is set aside (R91). -/
def takeWithdraw (_ : Byte) (station : Nat) (s : State) : State := s.dropReservation station

/-- The own WITHDRAW at the reservation list (R91). -/
def takeOwnWithdraw (_ : Frame) (s : State) : State := s.dropReservation s.own

/-- Arrival of WITHDRAW (R91). -/
def execWithdrawArrival (f : Inbound Byte) (s : State) : Result :=
  event (State.arrival f .withdraw takeOwnWithdraw suitsAny noTable takeWithdraw) s

/-- The own TIPPED at the column model, without catch-up, and at the reservation list (R24, R91). -/
def takeOwnTipped (f : Frame) (s : State) : State :=
  match f with
  | .tipped load _ _ => (s.addLayers [tipSegment s.own load]).dropReservation s.own
  | .holdSet _ | .holdLift _ | .offer .. | .withdraw _ | .drawn .. | .surface .. | .state _ => s

/-- Arrival of TIPPED (R23, R24, R91, R156). -/
def execTippedArrival (f : Inbound TippedPayload) (s : State) : Result :=
  event (State.arrival f .tipped takeOwnTipped suitsTip noTable State.takeTipped) s

/-- Arrival of DRAWN (R29, R125, R157). -/
def execDrawnArrival (f : Inbound DrawnPayload) (s : State) : Result :=
  event (State.arrival f .drawn noOwnPart suitsDraw noTable State.takeDrawn) s

/-- The own SURFACE at the column model (R33). -/
def takeOwnSurface (f : Frame) (s : State) : State :=
  match f with
  | .surface depth q => s.takeSurface s.own depth q
  | .holdSet _ | .holdLift _ | .offer .. | .withdraw _ | .tipped .. | .drawn .. | .state _ => s

/-- Arrival of SURFACE (R33, R41, R45). -/
def execSurfaceArrival (f : Inbound SurfacePayload) (s : State) : Result :=
  event (State.arrival f .surface takeOwnSurface suitsAny noTable State.takePeerSurface) s

/-- Arrival of STATE (R26, R36, R68, R91, R139, R147, R150 to R157). -/
def execStateArrival (f : Inbound StatePayload) (s : State) : Result :=
  event (State.arrival f .state noOwnPart suitsAny State.takePeerState State.takeState) s

/-- A kind that is not defined goes to the peer table alone, and is counted (R141, R147). -/
def execUndefinedKindArrival (h : Header) (_ : BitVec 4) (s : State) : Result :=
  event (State.received h suitsAny (fun _ t => t.unsuitedFrame) noTablePart) s

end Sys2Proof.Machine
end

