-- ==== Sys2Proof/Machine/Breaking.lean ====
section
/-! DEFINITION. The meanings of the rock breaker's commands: BREAK, BREAK-RENEW, BREAK-STOP, the park input and the
renewal and return timers (R96 to R101). -/

namespace Sys2Proof.Machine

/-- The renewal window, in ms. -/
def State.renewalTimer (s : State) : Timer := Timer.start s.prof.renewalWindow

/-- The last valid token, present in WORKING only (R94). -/
def State.workToken (s : State) : Option Bool :=
  match s.breaker.state with
  | .working t => some t
  | .parked | .returning | .fault _ => none

/-- The breaker is in FAULT. -/
def State.breakerFaulted (s : State) : Bool :=
  match s.breaker.state with
  | .fault _ => true
  | .parked | .working _ | .returning => false

/-- The tip is TIPPING. -/
def State.tipping (s : State) : Bool :=
  match s.tip.stage with
  | .tipping _ => true
  | .idle | .requested _ | .offered _ | .settling _ => false

/-- The seven tests of R96, in order. -/
def State.breakTests (s : State) : List (Bool × AnswerBody) :=
  [s.testTipRole, s.testReady, s.testNoHalt, s.testNoOwnEntry,
   (!s.tipping, .refused .tipActive),
   (!s.breakerFaulted, .refused .breakerOut),
   (s.breakerParked, .busy)]

/-- Work goes on with a token, the renewal window starting again (R97, R98). -/
def State.keepWorking (token : Bool) (s : State) : State :=
  s.setBreaker { s.breaker with state := .working token, renewal := s.renewalTimer }

/-- Work is granted: WORKING with token 0, and the tip sequencer informed (R97, R103). -/
def State.grantWork (s : State) : State :=
  (State.mark .breakerChange (s.keepWorking false)).informBreakerOut

/-- BREAK (R96, R97). -/
def execBreakWork (s : State) : Result :=
  .next (s.request codeBreak s.breakTests .accepted State.grantWork)

/-- The four tests of R98, in order. -/
def State.breakRenewTests (token : Byte) (s : State) : List (Bool × AnswerBody) :=
  [s.testTipRole,
   ((tokenOf token).isSome, .refused .badRequest),
   (s.workToken.isSome, .refused .notActive),
   (tokenOf token != s.workToken, .refused .staleToken)]

/-- BREAK-RENEW (R98). -/
def execBreakRenew (token : Byte) (s : State) : Result :=
  .next (s.request codeBreakRenew (s.breakRenewTests token) .accepted
    (State.keepWorking ((tokenOf token).getD false)))

/-- The tests of BREAK-STOP (R99). -/
def State.breakStopTests (s : State) : List (Bool × AnswerBody) :=
  [s.testTipRole, (s.workToken.isSome, .refused .notActive)]

/-- BREAK-STOP (R99). -/
def execBreakStop (s : State) : Result :=
  .next (s.request codeBreakStop s.breakStopTests .accepted (State.endBreakerWork .stop))

/-! ## The park input (R100, R101) -/

/-- The boom comes home: RETURNING and FAULT go to PARKED (R100, R101). -/
def State.boomParks (s : State) : State :=
  match s.breaker.state with
  | .returning | .fault _ => s.parkBreaker
  | .parked | .working _ => s

/-- The boom leaves park: PARKED goes to FAULT with PARK-LOST, and the tip sequencer is informed (R101, R103). -/
def State.boomLeaves (s : State) : State :=
  match s.breaker.state with
  | .parked => (s.enterBreaker (.fault .parkLost)).informBreakerOut
  | .working _ | .returning | .fault _ => s

/-- BREAKER-PARK becomes active (R100, R101). -/
def execBreakerParkActive (s : State) : Result :=
  event (State.edge .breakerPark parkInput true State.boomParks) s

/-- BREAKER-PARK becomes inactive (R101). -/
def execBreakerParkInactive (s : State) : Result :=
  event (State.edge .breakerPark parkInput false State.boomLeaves) s

/-! ## Timers (R99, R100) -/

/-- The renewal timer runs out in WORKING (R99). -/
def State.workLapses (s : State) : State :=
  if s.breaker.renewal.running then s.endBreakerWork .renewalLapse else s

/-- The return limit runs out in RETURNING (R100). -/
def State.returnRunsOut (s : State) : State :=
  match s.breaker.state with
  | .returning => if s.breaker.returning.running then s.enterBreaker (.fault .notParked) else s
  | .parked | .working _ | .fault _ => s

/-- Expiry of the breaker renewal timer (R99). -/
def execBreakerRenewalExpiry (s : State) : Result := event State.workLapses s

/-- Expiry of the return timer (R100). -/
def execReturnTimerExpiry (s : State) : Result := event State.returnRunsOut s

end Sys2Proof.Machine
end

