-- ==== Sys2Proof/Machine/Drawing.lean ====
section
/-! DEFINITION. The meanings of the drawing commands: DRAW, DRAW-RENEW, DRAW-STOP, GATE-RESET, the limit and
receiver-ready inputs, the weigher pulses and the gates' timers (R107 to R125, R48, R49, R54). -/

namespace Sys2Proof.Machine

/-! ## DRAW (R107, R108) -/

/-- The mode a DRAW asks for; a BATCH asks for its target (R107 test 2). -/
def drawModeOf (mode : Byte) (target : Option Word16) : Option DrawMode :=
  if mode.toNat = 1 then some .held
  else if mode.toNat = 2 then target.map (fun t => .batch t.toNat)
  else none

/-- The gate's receiver-ready input is active (R107 test 12). -/
def State.receiverReady (g : Gate) (s : State) : Bool := s.active (readyInput g)

/-- Tests 10 to 15 of R107 for a gate. -/
def State.gateDrawTests (g : Gate) (s : State) : List (Bool × AnswerBody) :=
  [(!(s.gate g).state.isFault, .refused .gateFault),
   ((s.gate g).state == .closed, .busy),
   (s.receiverReady g, .refused .receiverNotReady),
   (decide (s.prof.cushion < s.columnVolume), .refused .noCushion),
   (s.watch.wet != .refused, .refused .wetColumn),
   (!s.watch.wetRest.running || s.watch.wet == .clear, .refused .wetRest)]

/-- The fifteen tests of R107, in order. -/
def State.drawTests (gate mode : Byte) (target : Option Word16) (s : State) : List (Bool × AnswerBody) :=
  [s.testDrawRole,
   ((gateOf gate).isSome && (drawModeOf mode target).isSome, .refused .badRequest),
   s.testReady, s.testNoHalt, s.testNoEntry, s.testNoHangup, s.testSeeded, s.testActiveLine,
   (s.tipPeersPresent, .refused .peerSilent)] ++
  s.gateDrawTests ((gateOf gate).getD .a)

/-- A value clamped into a range. -/
def clampTo (low high n : Nat) : Nat := max low (min n high)

/-- The draw mode with its target clamped to 100 to 60,000 kg, and to the wet draw limit under RESTRICTED (R52,
R108). -/
def clampMode (wetLimit : Option Nat) (m : DrawMode) : DrawMode :=
  match m, wetLimit with
  | .held, _ => .held
  | .batch t, none => .batch (clampTo 100 60000 t)
  | .batch t, some limit => .batch (min (clampTo 100 60000 t) limit)

/-- The wet cap of a draw accepted now (R52, R108). -/
def State.wetCapNow (s : State) : Option Nat :=
  if s.watch.wet = .restricted then some s.prof.wetDrawLimit else none

/-- The sequencer at the acceptance of a draw, in WARNING (R108). -/
def GateSeq.grant (m : DrawMode) (cap : Option Nat) (renewal warning : Timer) (q : GateSeq) : GateSeq :=
  { q with state := .warning, mode := some m, wetCap := cap, mass := 0
           token := if m = .held then some false else none
           renewal := if m = .held then renewal else Timer.stopped
           warning := warning
           record := some ⟨m, 0, none, cap.isSome, none⟩ }

/-- A draw is granted: WARNING, or straight to OPENING with a warning time of 0 (R108, R109). -/
def State.grantDraw (g : Gate) (m : DrawMode) (s : State) : State :=
  let cap := s.wetCapNow
  let t := s.updateGate g
    (GateSeq.grant (clampMode cap m) cap s.renewalTimer (Timer.start (seconds s.prof.warningTime)))
  if s.prof.warningTime = 0 then t.beginOpening g else t

/-- DRAW (R107, R108). -/
def execDraw (gate mode : Byte) (target : Option Word16) (s : State) : Result :=
  .next (s.request codeDraw (s.drawTests gate mode target) .accepted
    (State.grantDraw ((gateOf gate).getD .a) ((drawModeOf mode target).getD .held)))

/-! ## DRAW-RENEW, DRAW-STOP, GATE-RESET (R116 to R118) -/

/-- The gate holds a HELD draw in WARNING, OPENING or OPEN (R118 test 3). -/
def GateSeq.heldDraw (q : GateSeq) : Bool := q.state.drawing && q.mode == some .held

/-- The four tests of R118, in order. -/
def State.drawRenewTests (gate token : Byte) (s : State) : List (Bool × AnswerBody) :=
  let q := s.gate ((gateOf gate).getD .a)
  [s.testDrawRole,
   ((gateOf gate).isSome && (tokenOf token).isSome, .refused .badRequest),
   (q.heldDraw, .refused .notActive),
   (tokenOf token != q.token, .refused .staleToken)]

/-- A draw is renewed with a token (R118). -/
def State.renewDraw (g : Gate) (token : Bool) (s : State) : State :=
  s.updateGate g (fun q => { q with token := some token, renewal := s.renewalTimer })

/-- DRAW-RENEW (R118). -/
def execDrawRenew (gate token : Byte) (s : State) : Result :=
  .next (s.request codeDrawRenew (s.drawRenewTests gate token) .accepted
    (State.renewDraw ((gateOf gate).getD .a) ((tokenOf token).getD false)))

/-- The tests of R117, in order. -/
def State.drawStopTests (gate : Byte) (s : State) : List (Bool × AnswerBody) :=
  [s.testDrawRole, ((gateOf gate).isSome, .refused .badRequest),
   ((s.gate ((gateOf gate).getD .a)).state.drawing, .refused .notActive)]

/-- DRAW-STOP (R117). -/
def execDrawStop (gate : Byte) (s : State) : Result :=
  .next (s.request codeDrawStop (s.drawStopTests gate) .accepted
    (State.endDraw .stop ((gateOf gate).getD .a)))

/-- The gate is in none of WARNING, OPENING and CLOSING (R116 test 4). -/
def GateState.resettable : GateState → Bool
  | .warning | .opening | .closing => false
  | .closed | .opened | .fault _ => true

/-- The six tests of R116, in order. -/
def State.gateResetTests (gate : Byte) (s : State) : List (Bool × AnswerBody) :=
  let g := (gateOf gate).getD .a
  [s.testDrawRole, ((gateOf gate).isSome, .refused .badRequest), s.testLive,
   ((s.gate g).state.resettable, .busy),
   ((s.gate g).state.isFault, .refused .notActive),
   (s.provenClosed g, .refused .gateFault)]

/-- The gate leaves FAULT for CLOSED; its record and dribble period stand (R116). -/
def State.resetGate (g : Gate) (s : State) : State := s.updateGate g (fun q => { q with state := .closed })

/-- GATE-RESET (R116). -/
def execGateReset (gate : Byte) (s : State) : Result :=
  .next (s.request codeGateReset (s.gateResetTests gate) .accepted (State.resetGate ((gateOf gate).getD .a)))

/-! ## The limit inputs (R110, R112, R114) -/

/-- Both limits have become active: every state but FAULT faults with LIMIT-CONFLICT (R114). -/
def State.limitConflict (g : Gate) (s : State) : State :=
  if (s.gate g).state.isFault then s else s.enterFault .limitConflict g

/-- The closed limit becomes active (R112, R114). -/
def State.closedLimitComes (g : Gate) (s : State) : State :=
  if s.bothLimits g then s.limitConflict g
  else if (s.gate g).state = .closing then s.enterClosed g
  else s

/-- The closed limit becomes inactive: drift in CLOSED and WARNING (R114). -/
def State.closedLimitGoes (g : Gate) (s : State) : State :=
  match (s.gate g).state with
  | .closed | .warning => s.enterFault .gateDrift g
  | .opening | .opened | .closing | .fault _ => s

/-- Entry into OPEN: the starvation window starts, and the draw's mass is tested at once (R110). -/
def State.enterOpen (g : Gate) (s : State) : State :=
  let t := (s.updateGate g (fun q => { q with state := .opened, stroke := Timer.stopped })).startWindow g
  t.endDrawIf (t.gate g).massCause g

/-- The open limit becomes active (R110, R114). -/
def State.openLimitComes (g : Gate) (s : State) : State :=
  if s.bothLimits g then s.limitConflict g
  else if (s.gate g).state = .opening then s.enterOpen g
  else s

/-- CLOSED-LIMIT becomes active (R112, R114). -/
def execClosedLimitActive (g : Gate) (s : State) : Result :=
  event (State.edge (.closedLimit g) (closedLimitInput g) true (State.closedLimitComes g)) s

/-- CLOSED-LIMIT becomes inactive (R114). -/
def execClosedLimitInactive (g : Gate) (s : State) : Result :=
  event (State.edge (.closedLimit g) (closedLimitInput g) false (State.closedLimitGoes g)) s

/-- OPEN-LIMIT becomes active (R110, R114). -/
def execOpenLimitActive (g : Gate) (s : State) : Result :=
  event (State.edge (.openLimit g) (openLimitInput g) true (State.openLimitComes g)) s

/-- OPEN-LIMIT becomes inactive: no gate state changes (R114). -/
def execOpenLimitInactive (g : Gate) (s : State) : Result :=
  event (State.edge (.openLimit g) (openLimitInput g) false id) s

/-! ## Receiver-ready (R120, R163) -/

/-- RECEIVER-READY becomes inactive (R120). -/
def execReceiverReadyInactive (g : Gate) (s : State) : Result :=
  event (State.edge (.receiverReady g) (readyInput g) false (State.whenLive (State.endDraw .receiverLost g))) s

/-- RECEIVER-READY becomes active: no block takes it (R163). -/
def execReceiverReadyActive (g : Gate) (s : State) : Result :=
  event (State.edge (.receiverReady g) (readyInput g) true id) s

/-! ## Weigher pulses (R123 to R125, R164) -/

/-- The raw pulse count of an input advances (R164). -/
def State.countPulse (g : Gate) (s : State) : State :=
  s.setField { s.field with pulses := s.field.pulses.modify g (fun n => add32 n 1) }

/-- Step 1: the quantum is added to the own cumulative drawn mass (R123). -/
def State.addDrawnMass (s : State) : State :=
  s.setDrawn { s.drawn with cumulative := add32 s.drawn.cumulative s.prof.weigherQuantum }

/-- The quantum is added to mass this draw and the record (R123 step 2). -/
def GateSeq.addMass (quantum : Nat) (q : GateSeq) : GateSeq :=
  { q with mass := add32 q.mass quantum
           record := q.record.map (fun r => { r with mass := add32 q.mass quantum }) }

/-- The quantum is added to the count of an OPEN gate's window (R48). -/
def State.countWindow (g : Gate) (s : State) : State :=
  if (s.gate g).state = .opened then
    s.setWindow g { s.watch.windows.get g with count := (s.watch.windows.get g).count + s.prof.weigherQuantum }
  else s

/-- A dribble pulse: the first of its period raises MODEL with reason DRIBBLE (R124). -/
def State.dribblePulse (g : Gate) (s : State) : State :=
  let t := (s.setDrawn { s.drawn with dribble := true }).updateGate g
    (fun q => { q with dribble := { q.dribble with raised := true } })
  if (s.gate g).dribble.raised then t else t.modelEvent .dribble

/-- Step 2: the pulse counts to the draw, or is dribble (R123, R124). -/
def State.pulseToGate (g : Gate) (s : State) : State :=
  if (s.gate g).state.running then (s.updateGate g (GateSeq.addMass s.prof.weigherQuantum)).countWindow g
  else s.dribblePulse g

/-- The tests of step 4 for the gate of the pulse, where it was OPEN (R123). -/
def State.pulseCause (g : Gate) (s : State) : Option EndCause :=
  if (s.gate g).state = .opened then (s.gate g).massCause else none

/-- The first of the causes met at a pulse in the order of R111: BATCH-DONE or WET-LIMIT by the mass, then
WET-LIMIT or CUSHION by the inform. -/
def firstCause (mass informed : Option EndCause) : Option EndCause :=
  match mass with
  | some c => some c
  | none => informed

/-- Step 5: a DRAWN is formed where the cumulative mass has reached the reported mass plus the quantum (R125). -/
def State.formDrawnAtQuantum (s : State) : State :=
  if s.drawn.reported + s.prof.reportQuantum ≤ s.drawn.cumulative then s.formDrawn else s

/-- The cause a gate's draw ends with at a pulse on gate `g`, `s` being the state after step 3 and `before` the
state before the pulse (R111, R123). -/
def State.causeAtPulse (s before : State) (g other : Gate) : Option EndCause :=
  firstCause (if other = g then s.pulseCause g else none) (s.informedCause before other)

/-- A counted pulse at the gate sequencer, as one event (R123). Where it ends both draws, gate A's ends first: DESIGN
CHOICE (notes/assumptions/44.md). -/
def State.pulse (g : Gate) (s : State) : State :=
  let t := ((s.addDrawnMass.pulseToGate g).drawIncrement s.prof.weigherQuantum).noteWet s
  ((t.endDrawIf (t.causeAtPulse s g .a) .a).endDrawIf (t.causeAtPulse s g .b) .b).formDrawnAtQuantum

/-- WEIGHER-PULSE: the raw count in every mode and role; the gate sequencer at a DRAW station in LISTENING and
READY (R123, R164). -/
def execWeigherPulse (g : Gate) (s : State) : Result :=
  let t := s.countPulse g
  .next (if t.straps.role = .draw then t.whenLive (State.pulse g) else t)

/-! ## Timers (R49, R54, R109, R113, R119) -/

/-- The warning timer runs out in WARNING (R109). -/
def State.warningRunsOut (g : Gate) (s : State) : State :=
  if (s.gate g).state = .warning ∧ (s.gate g).warning.running then s.beginOpening g else s

/-- The stroke timer runs out in OPENING or CLOSING (R113). -/
def State.strokeRunsOut (g : Gate) (s : State) : State :=
  match (s.gate g).state with
  | .opening | .closing => if (s.gate g).stroke.running then s.enterFault .strokeTimeout g else s
  | .closed | .warning | .opened | .fault _ => s

/-- The renewal timer of a HELD draw runs out (R119). -/
def State.drawLapses (g : Gate) (s : State) : State :=
  if (s.gate g).renewal.running then s.endDraw .renewalLapse g else s

/-- A starvation window runs out: short, it ends the draw and raises the HANGUP; otherwise the next one starts
(R48, R49). -/
def State.windowRunsOut (g : Gate) (s : State) : State :=
  if (s.gate g).state = .opened ∧ (s.watch.windows.get g).timer.running then
    if (s.watch.windows.get g).count < s.prof.starvationThreshold then (s.endDraw .starved g).raiseStarved g
    else s.startWindow g
  else s

/-- The wet rest timer stops when it expires (R54). -/
def State.wetRestRunsOut (s : State) : State := s.setWatch { s.watch with wetRest := Timer.stopped }

/-- Expiry of a warning timer (R109). -/
def execWarningTimerExpiry (g : Gate) (s : State) : Result := event (State.warningRunsOut g) s

/-- Expiry of a stroke timer (R113). -/
def execStrokeTimerExpiry (g : Gate) (s : State) : Result := event (State.strokeRunsOut g) s

/-- Expiry of a draw's renewal timer (R119). -/
def execDrawRenewalExpiry (g : Gate) (s : State) : Result := event (State.drawLapses g) s

/-- Expiry of a starvation window (R48, R49). -/
def execStarvationWindowExpiry (g : Gate) (s : State) : Result := event (State.windowRunsOut g) s

/-- Expiry of the wet rest timer (R54). -/
def execWetRestExpiry (s : State) : Result := event State.wetRestRunsOut s

end Sys2Proof.Machine
end

