-- ==== Sys2Proof/Machine/Holding.lean ====
section
/-! DEFINITION. The meanings of the hold commands: HALT, HALT-RELEASE, ENTRY, ENTRY-RELEASE, HANGUP-CLEAR, and the
stop-loop edges (R50, R60, R61, R64, R65, R102, R122, R163, R169). -/

namespace Sys2Proof.Machine

/-- The own HALT is held. -/
def State.ownHalt (s : State) : Bool := (s.holdOf s.own .halt).isSome

/-- HALT (R60). -/
def execHalt (s : State) : Result :=
  .next (s.request codeHalt [s.testLive] .accepted (State.addOwnCause Causes.ofOperator))

/-! ## HALT-RELEASE (R64) -/

/-- Both gates are proven closed and neither is in FAULT (R64). -/
def State.gatesShown (s : State) : Bool :=
  s.provenClosed .a && s.provenClosed .b && !s.gates.a.state.isFault && !s.gates.b.state.isFault

/-- The causes a HALT-RELEASE could remove now (R64). -/
def State.removable (s : State) : Causes := ⟨true, true, s.loopClosed, s.gatesShown, false⟩

/-- The causes that would remain. -/
def State.remainingCauses (s : State) : Causes := s.ownCauses.minus s.removable

/-- The three tests of R64, in order. -/
def State.haltReleaseTests (s : State) : List (Bool × AnswerBody) :=
  [s.testLive, s.testHeld .halt,
   (!(s.ownCauses.inter s.removable).isEmpty, .refusedCauses s.ownCauses)]

/-- The commissioning window closes where RESTART leaves the own HALT (R64, R71). -/
def State.closeWindow (s : State) : State :=
  if s.ownCauses.restart then s.setPort { s.port with window := false } else s

/-- Every removable cause is removed; the entry leaves where none remains (R64). -/
def State.releaseHalt (s : State) : State :=
  if s.remainingCauses.isEmpty then s.closeWindow.removeHold s.own .halt
  else s.closeWindow.enterHold s.own (.halt s.remainingCauses)

/-- HALT-RELEASE (R64). -/
def execHaltRelease (s : State) : Result :=
  .next (s.request codeHaltRelease s.haltReleaseTests (.acceptedCauses s.remainingCauses) State.releaseHalt)

/-! ## ENTRY, HANGUP-CLEAR (R50, R65) -/

/-- The own ENTRY enters the list (R65). -/
def State.raiseEntry (s : State) : State := s.enterHold s.own .entry

/-- The own ENTRY leaves the list (R65). -/
def State.releaseEntry (s : State) : State := s.removeHold s.own .entry

/-- ENTRY (R65). -/
def execEntry (s : State) : Result :=
  .next (s.request codeEntry [s.testLive] .accepted State.raiseEntry)

/-- ENTRY-RELEASE (R65). -/
def execEntryRelease (s : State) : Result :=
  .next (s.request codeEntryRelease [s.testLive, s.testHeld .entry] .accepted State.releaseEntry)

/-- HANGUP-CLEAR (R50). -/
def execHangupClear (s : State) : Result :=
  .next (s.request codeHangupClear [s.testLive, s.testHeld .hangup] .accepted State.liftHangup)

/-! ## The stop loop (R61, R163, R169) -/

/-- The loop opens: in STARTING it enters the restart HALT alone (R162); otherwise the sequencers and the hold
list act (R61, R102, R122). The safe state follows from the conditioned input (R169). -/
def State.loopOpens (s : State) : State :=
  if s.mode = .starting then s.addOwnCause Causes.ofStopLoop
  else
    match s.straps.role with
    | .tip => s.tipLoopOpens
    | .draw => s.drawLoopOpens

/-- STOP-LOOP becomes inactive (R61, R163). -/
def execStopLoopOpens (s : State) : Result :=
  event (State.edge .stopLoop stopLoopInput false State.loopOpens) s

/-- STOP-LOOP becomes active: the safe state alone takes it (R163, R169). -/
def execStopLoopCloses (s : State) : Result :=
  event (State.edge .stopLoop stopLoopInput true id) s

end Sys2Proof.Machine
end

