-- ==== Sys2Proof/Machine/Inputs.lean ====
section
/-! DEFINITION. The meanings of the spare inputs and of the first conditioned states, with the restart states that
the blocks take from them (R71, R94, R105, R160, R162, R179 steps 4 and 5). -/

namespace Sys2Proof.Machine

/-- An edge on a spare input: conditioned, and handed to no block (R160). -/
def execSpareInputEdge (i : InputNo) (active : Bool) (s : State) : Result :=
  event (State.edge .spare i active id) s

/-! ## Restart states that the inputs give -/

/-- At a TIP station the breaker sequencer takes its restart state from the park input as first conditioned (R94), so
that an edge of that input later in STARTING finds a state to act on (R101, R162). -/
def State.startBreaker (i : InputNo) (active : Option Bool) (s : State) : State :=
  if s.straps.role = .tip ∧ i = parkInput then s.setBreaker (Breaker.restarted (active == some true)) else s

/-- A gate sequencer takes its restart state (R105). -/
def State.restartGate (g : Gate) (s : State) : GateSeq :=
  GateSeq.restarted (s.active (closedLimitInput g)) (s.active (openLimitInput g))

/-- Both gate sequencers take their restart states; one in FAULT gives the restart HALT its GATE-FAULT (R71,
R105). -/
def State.startGates (s : State) : State :=
  let t := s.setGates ⟨s.restartGate .a, s.restartGate .b⟩
  if t.gates.a.state.isFault || t.gates.b.state.isFault then
    t.setRestartCauses (t.restartCauses.union Causes.ofGateFault)
  else t

/-- The gate sequencers, which a DRAW station alone has, take their restart states (R105). -/
def State.startSequencers (s : State) : State :=
  match s.straps.role with
  | .tip => s
  | .draw => s.startGates

/-- The load and report buffers are emptied, the malformed message counter is 0 (R179 step 5). -/
def Port.emptied (p : Port) : Port := { p with malformed := 0, report := none, buffer := [] }

/-- Once every input has its first conditioned state, the blocks take their restart states (R179 step 4), the wet
status is evaluated (R51), and the port is emptied (R179 step 5). -/
def State.startBlocks (s : State) : State :=
  if s.allConditioned && !s.blocksStarted then
    let t := s.startSequencers.evaluateWet
    (t.setPort t.port.emptied).setBlocksStarted true
  else s

/-- An open stop loop enters the restart HALT (R71, R162). -/
def State.startLoop (i : InputNo) (active : Option Bool) (s : State) : State :=
  if i = stopLoopInput ∧ active = some false then
    s.setRestartCauses (s.restartCauses.union Causes.ofStopLoop)
  else s

/-- An input takes its first conditioned state, which the restart HALT and the breaker read (R71, R94, R162). -/
def State.takeFirst (i : InputNo) (st : InputState) (s : State) : State :=
  ((s.setField { s.field with inputs := s.field.inputs.set i st }).startLoop i st.conditioned).startBreaker i
    st.conditioned

/-- A first conditioned state is taken in STARTING, once (R162). -/
def State.firstState (i : InputNo) (st : InputState) (s : State) : State :=
  if s.mode = .starting ∧ s.conditioned i = none then (s.takeFirst i st).startBlocks else s

/-- INPUT-FIRST-CONDITIONED (R162). -/
def execInputFirstConditioned (i : InputNo) (active : Bool) (s : State) : Result :=
  .next (s.firstState i ⟨s.rawFor i active, some active, false⟩)

/-- INPUT-FIRST-STATE-FORCED: inactive, whatever the raw level (R162, R170). -/
def execInputFirstStateForced (i : InputNo) (raw : Bool) (s : State) : Result :=
  .next (s.firstState i ⟨raw, some false, true⟩)

end Sys2Proof.Machine
end

