-- ==== Sys2Proof/Machine/LineEvents.lean ====
section
/-! DEFINITION. The meanings of the other line events: receive errors, attempts and their failures, the isolation
retry (R128 to R130, R137 to R141), and the timers of the peer table (R148, R149, R152, R153). -/

namespace Sys2Proof.Machine

/-- The counter of a receive fault advances (R141). -/
def LineCounters.oneFault (e : ReceiveFault) (c : LineCounters) : LineCounters :=
  match e with
  | .length => { c with lengthErrors := bump16 c.lengthErrors }
  | .truncation => { c with truncations := bump16 c.truncations }
  | .crc => { c with crcErrors := bump16 c.crcErrors }

/-- A frame fails a receive check; OFFLINE takes nothing (R140, R141). -/
def execReceiveError (e : ReceiveFault) (s : State) : Result :=
  .next (if s.line.state = .offline then s else s.count (LineCounters.oneFault e))

/-- The line falls idle and an attempt begins (R128). -/
def execTransmitAttemptStart (s : State) : Result := .next s.startAttempt

/-- Arbitration is lost (R129). -/
def execArbitrationLoss (s : State) : Result := event State.loseArbitration s

/-- A transmit error of the frame on the wire (R130). -/
def execTransmitError (s : State) : Result := event (State.failAttempt (·.onWire)) s

/-- The wait limit runs out for the frame that waits (R128). -/
def State.waitRunsOut (s : State) : State :=
  if s.line.sending then s else s.failAttempt s.line.sendable

/-- The line stays not idle for 400 bit times while a frame waits (R128). -/
def execWaitLimit (s : State) : Result := event State.waitRunsOut s

/-- The retry timer runs out while ISOLATED: one attempt is due (R139). -/
def State.retryRunsOut (s : State) : State :=
  if s.line.state = .isolated ∧ s.line.retryTimer.running then
    s.setLine { s.line with retryTimer := Timer.stopped, retryDue := true }
  else s

/-- Expiry of the isolation retry timer (R139). -/
def execIsolationRetryExpiry (s : State) : Result := .next s.retryRunsOut

/-! ## The peer table's timers -/

/-- A record whose silence timer has run out (R149). -/
def PeerRecord.fallSilent (r : PeerRecord) : PeerRecord :=
  { r with presence := .silent, lastSeq := none, silence := Timer.stopped }

/-- A peer's silence timer is running. -/
def State.silenceRuns (station : Nat) (s : State) : Bool := ((s.peer station).map (·.silence.running)).getD false

/-- A peer falls SILENT (R148, R149). -/
def State.silenceRunsOut (station : Nat) (s : State) : State :=
  if s.silenceRuns station then State.mark .peerChange (s.updatePeer station PeerRecord.fallSilent) else s

/-- Expiry of a peer's silence timer (R149). -/
def execSilenceTimerExpiry (station : BitVec 4) (s : State) : Result := event (State.silenceRunsOut station.toNat) s

/-- A record is UNHEARD. -/
def PeerRecord.unheard (r : PeerRecord) : Bool := r.presence == .unheard

/-- The roll-call runs out: records still UNHEARD become SILENT, the mode READY (R148, R152). -/
def State.rollCallRunsOut (s : State) : State :=
  if s.mode = .listening ∧ s.peers.rollCall.running then
    ((s.setPeers { s.peers with records := s.peers.records.map PeerRecord.runsOut }).endRollCall).markIf
      (s.peers.records.any PeerRecord.unheard) .peerChange
  else s

/-- Expiry of the roll-call timer (R152). -/
def execRollCallTimerExpiry (s : State) : Result := event State.rollCallRunsOut s

/-- The STATE timer starts with the STATE period (R153). -/
def State.startStateTimer (s : State) : State :=
  s.setPeers { s.peers with stateTimer := Timer.start s.prof.statePeriod }

/-- The STATE timer runs out: a STATE is handed over and the timer starts again (R153). -/
def State.stateRunsOut (s : State) : State :=
  if s.peers.stateTimer.running then s.startStateTimer.handOver (.state none) else s

/-- Expiry of the STATE timer (R153). -/
def execStateTimerExpiry (s : State) : Result := event State.stateRunsOut s

end Sys2Proof.Machine
end

