-- ==== Sys2Proof/Machine/ProfileStore.lean ====
section
/-! DEFINITION. The addressed buffers, and the stored profile: layout, checks, clamps and digest (R2, R180 to
R183, R189, 12.3). -/

namespace Sys2Proof.Machine

/-! ## Addressed buffers -/

/-- The byte at an address; an unlisted address reads 0 (R182). -/
def Memory.read : Memory → Nat → Byte
  | [], _ => 0#8
  | (x, v) :: rest, a => if x = a then v else Memory.read rest a

/-- A byte written at an address, in canonical form. -/
def Memory.write : Memory → Nat → Byte → Memory
  | [], a, b => if b = 0#8 then [] else [(a, b)]
  | (x, v) :: rest, a, b =>
    if a < x then (if b = 0#8 then (x, v) :: rest else (a, b) :: (x, v) :: rest)
    else if a = x then (if b = 0#8 then rest else (a, b) :: rest)
    else (x, v) :: Memory.write rest a b

/-- Bytes written from an address upward. -/
def Memory.writeAll : Memory → Nat → List Byte → Memory
  | m, _, [] => m
  | m, a, b :: bs => Memory.writeAll (Memory.write m a b) (a + 1) bs

/-- Every address listed from here on is above `low`, addresses rise, and no byte is 0. -/
def Memory.wfFrom : Nat → Memory → Bool
  | _, [] => true
  | low, (x, v) :: rest => decide (low ≤ x) && v != 0#8 && Memory.wfFrom (x + 1) rest

/-- The canonical form: addresses strictly rising, no entry equal to what an unlisted address reads as. -/
def Memory.wf (m : Memory) : Bool := Memory.wfFrom 0 m

/-- `n` bytes from an address. -/
def Memory.slice (m : Memory) (a n : Nat) : List Byte := (List.range n).map (fun i => m.read (a + i))

/-- Numbers in the image, most significant byte first (R185). -/
def Memory.nat1 (m : Memory) (a : Nat) : Nat := (m.read a).toNat
def Memory.nat2 (m : Memory) (a : Nat) : Nat := (word16 (m.read a) (m.read (a + 1))).toNat
def Memory.nat4 (m : Memory) (a : Nat) : Nat :=
  (word32 (m.read a) (m.read (a + 1)) (m.read (a + 2)) (m.read (a + 3))).toNat

/-! ## The layout of 12.3 -/

def imageLength (m : Memory) : Nat := m.nat2 0
def bandCount (m : Memory) : Nat := m.nat1 2
def stationCount (m : Memory) : Nat := m.nat1 3
def imageDensity (m : Memory) : Nat := m.nat2 40

/-- The bands in use: the first n of eight slots. -/
def imageBands (m : Memory) : List Band :=
  (List.range (min (bandCount m) 8)).map (fun i => ⟨m.nat2 (8 + 4 * i), m.nat2 (10 + 4 * i)⟩)

/-- The offset of a station entry. -/
def entryOffset (i : Nat) : Nat := 42 + 33 * i

/-- The station numbers, in the order of the table. -/
def imageNumbers (m : Memory) : List Nat :=
  (List.range (stationCount m)).map (fun i => m.nat1 (entryOffset i))

/-- The role byte of a station entry: 1 TIP, 2 DRAW (R189). -/
def imageRole (m : Memory) (i : Nat) : Option Role :=
  if m.nat1 (entryOffset i + 1) = 1 then some .tip
  else if m.nat1 (entryOffset i + 1) = 2 then some .draw else none

/-- The roles, in the order of the table. -/
def imageRoles (m : Memory) : List (Option Role) := (List.range (stationCount m)).map (imageRole m)

/-- Where the pass values begin. -/
def passOffset (m : Memory) : Nat := entryOffset (stationCount m)

/-! ## Clamping -/

/-- A value with the range it is clamped into (R180). -/
structure Ranged where
  raw  : Nat
  low  : Nat
  high : Nat
deriving DecidableEq, Repr

/-- The value after its clamp: the nearest limit of the range (scope, Answers, refusal and clamping). -/
def Ranged.value (r : Ranged) : Nat := max r.low (min r.raw r.high)

/-- The clamp changes the value. -/
def Ranged.clamped (r : Ranged) : Bool := r.value != r.raw

/-- The clamped values of a station entry: sensor fitted, maximum range and twelve debounces (10.3, R161, R189). -/
def entryRanges (m : Memory) (i : Nat) : List Ranged :=
  [⟨m.nat1 (entryOffset i + 4), 0, 1⟩, ⟨m.nat2 (entryOffset i + 7), 1, 60000⟩] ++
  (List.range 12).map (fun k => ⟨m.nat1 (entryOffset i + 10 + 2 * k), 0, 250⟩)

/-- A station entry after its clamps. -/
def imageEntry (m : Memory) (i : Nat) : StationEntry :=
  { number := m.nat1 (entryOffset i)
    role := (imageRole m i).getD .tip
    brow := m.nat2 (entryOffset i + 2)
    sensor := (Ranged.value ⟨m.nat1 (entryOffset i + 4), 0, 1⟩) == 1
    mountDepth := m.nat2 (entryOffset i + 5)
    maxRange := Ranged.value ⟨m.nat2 (entryOffset i + 7), 1, 60000⟩
    inputs := (List.range 12).map (fun k =>
      ⟨m.nat1 (entryOffset i + 9 + 2 * k) == 1, Ranged.value ⟨m.nat1 (entryOffset i + 10 + 2 * k), 0, 250⟩⟩) }

/-- The station table after its clamps. -/
def imageStations (m : Memory) : List StationEntry := (List.range (stationCount m)).map (imageEntry m)

/-- The pass values with their ranges, in the order of 12.3: R75, R94, R105, R40, 10.3, R153, R125, R164, R2. -/
def rangeClass (m : Memory) (i : Nat) : Ranged := ⟨m.nat4 (passOffset m + 4 * i), 1000, 600000⟩
def rangeOfferTimeout (m : Memory) : Ranged := ⟨m.nat2 (passOffset m + 24), 30, 600⟩
def rangeSettle (m : Memory) : Ranged := ⟨m.nat2 (passOffset m + 26), 2, 60⟩
def rangeRenewal (m : Memory) : Ranged := ⟨m.nat2 (passOffset m + 28), 200, 2000⟩
def rangeWarning (m : Memory) : Ranged := ⟨m.nat2 (passOffset m + 30), 0, 10⟩
def rangeStroke (m : Memory) : Ranged := ⟨m.nat2 (passOffset m + 32), 2, 60⟩
def rangeReturn (m : Memory) : Ranged := ⟨m.nat2 (passOffset m + 34), 10, 300⟩
def rangeWetRest (m : Memory) : Ranged := ⟨m.nat2 (passOffset m + 36), 30, 1800⟩
def rangeStarvationWindow (m : Memory) : Ranged := ⟨m.nat2 (passOffset m + 38), 5, 120⟩
def rangeSurfaceInterval (m : Memory) : Ranged := ⟨m.nat2 (passOffset m + 40), 1, 60⟩
def rangeStatePeriod (m : Memory) : Ranged := ⟨m.nat2 (passOffset m + 42), 250, 5000⟩
def rangeWetDrawLimit (m : Memory) : Ranged := ⟨m.nat2 (passOffset m + 44), 1000, 60000⟩
def rangeReportQuantum (m : Memory) : Ranged := ⟨m.nat2 (passOffset m + 46), 100, 10000⟩
def rangeWeigherQuantum (m : Memory) : Ranged := ⟨m.nat2 (passOffset m + 48), 1, 1000⟩
def rangeStarvationThreshold (m : Memory) : Ranged := ⟨m.nat2 (passOffset m + 50), 0, 10000⟩
def rangeCushion (m : Memory) : Ranged := ⟨m.nat4 (passOffset m + 52), 0, passCapacity (imageBands m)⟩
def rangeDrawZone (m : Memory) : Ranged := ⟨m.nat4 (passOffset m + 56), 0, passCapacity (imageBands m)⟩
def rangeHeadroom (m : Memory) : Ranged := ⟨m.nat2 (passOffset m + 60), 0, 2000⟩
def rangeTTol (m : Memory) : Ranged := ⟨m.nat2 (passOffset m + 62), 10, 500⟩
def rangeTHang (m : Memory) : Ranged := ⟨m.nat2 (passOffset m + 64), 100, 2000⟩
def rangeQMin (m : Memory) : Ranged := ⟨m.nat1 (passOffset m + 66), 1, 15⟩

/-- Every value of the image that has a range. -/
def imageRanges (m : Memory) : List Ranged :=
  ((List.range (stationCount m)).flatMap (entryRanges m)) ++ (List.range 6).map (rangeClass m) ++
  [rangeOfferTimeout m, rangeSettle m, rangeRenewal m, rangeWarning m, rangeStroke m, rangeReturn m,
   rangeWetRest m, rangeStarvationWindow m, rangeSurfaceInterval m, rangeStatePeriod m, rangeWetDrawLimit m,
   rangeReportQuantum m, rangeWeigherQuantum m, rangeStarvationThreshold m, rangeCushion m, rangeDrawZone m,
   rangeHeadroom m, rangeTTol m, rangeTHang m, rangeQMin m]

/-- The number of values clamped (R180). -/
def clampCount (m : Memory) : Nat := ((imageRanges m).filter Ranged.clamped).length

/-! ## The five checks of R180 -/

/-- Check 1: the declared length exceeds 512, or the CRC-32 does not match; a length with no room for a CRC
has none that matches (notes/assumptions/10.md). -/
def storeCheckFails (m : Memory) : Bool :=
  decide (Config.bufferSize < imageLength m) || decide (imageLength m < 4) ||
  crc32 (m.slice 0 (imageLength m - 4)) != BitVec.ofNat 32 (m.nat4 (imageLength m - 4))

/-- Check 2: one of the conditions 1 to 5 of R2 holds. -/
def geometryFails (m : Memory) : Bool :=
  bandCount m == 0 || decide (8 < bandCount m) ||
  (imageBands m).any (·.height == 0) ||
  (imageBands m).any (fun b => b.area == 0 || decide (4000 < b.area)) ||
  decide (65535 < chuteDepth (imageBands m)) ||
  decide (imageDensity m < 800) || decide (3000 < imageDensity m)

/-- Check 3: the station table, with the length that goes with its count and the straps as latched (R180, R189). -/
def stationTableFails (m : Memory) (straps : Straps) : Bool :=
  imageLength m != 113 + 33 * stationCount m ||
  stationCount m == 0 || decide (8 < stationCount m) ||
  (imageNumbers m).any (fun n => decide (n < 1) || decide (8 < n)) ||
  !(imageNumbers m).Nodup ||
  (imageRoles m).any (·.isNone) ||
  (imageRoles m).count (some .draw) != 1 ||
  (imageRoles m).count (some .tip) == 0 ||
  !((imageNumbers m).zip (imageRoles m)).contains (straps.station, some straps.role)

/-- Check 4: a TIP station's limit depth is not less than D_c, with the headroom clamped (R2). -/
def limitDepthFails (m : Memory) : Bool :=
  (imageStations m).any (fun e =>
    e.role == .tip && decide (chuteDepth (imageBands m) ≤ e.brow + (rangeHeadroom m).value))

/-- Check 5: T_hang is not greater than T_tol, each clamped first. -/
def thresholdsFail (m : Memory) : Bool := decide ((rangeTHang m).value ≤ (rangeTTol m).value)

/-- The first check that fails, in order (R180). A torn image's CRC does not match (R183). -/
def imageFailure (m : Memory) (torn : Bool) (straps : Straps) : Option ProfileReason :=
  if torn || storeCheckFails m then some .storeCheck
  else if geometryFails m then some .geometry
  else if stationTableFails m straps then some .stationTable
  else if limitDepthFails m then some .limitDepth
  else if thresholdsFail m then some .thresholds
  else none

/-- The bytes the pass digest is formed over: band count, used band slots, density, station count, station
entries (R189). -/
def digestBytes (m : Memory) : List Byte :=
  [m.read 2] ++ m.slice 8 (4 * min (bandCount m) 8) ++ m.slice 40 2 ++ [m.read 3] ++
  m.slice 42 (33 * stationCount m)

/-- The pass digest (R180, R186, R189). -/
def imageDigest (m : Memory) : Nat := (crc16 (digestBytes m)).toNat

/-- The profile an image that passes the checks puts in force (R180). -/
def imageProfile (m : Memory) : Profile :=
  { issue := m.nat4 4
    bands := imageBands m
    density := imageDensity m
    stations := imageStations m
    classVolumes := (List.range 6).map (fun i => (rangeClass m i).value)
    offerTimeout := (rangeOfferTimeout m).value
    settleTime := (rangeSettle m).value
    renewalWindow := (rangeRenewal m).value
    warningTime := (rangeWarning m).value
    strokeLimit := (rangeStroke m).value
    returnLimit := (rangeReturn m).value
    wetRest := (rangeWetRest m).value
    starvationWindow := (rangeStarvationWindow m).value
    surfaceInterval := (rangeSurfaceInterval m).value
    statePeriod := (rangeStatePeriod m).value
    wetDrawLimit := (rangeWetDrawLimit m).value
    reportQuantum := (rangeReportQuantum m).value
    weigherQuantum := (rangeWeigherQuantum m).value
    starvationThreshold := (rangeStarvationThreshold m).value
    cushion := (rangeCushion m).value
    drawZone := (rangeDrawZone m).value
    headroom := (rangeHeadroom m).value
    tTol := (rangeTTol m).value
    tHang := (rangeTHang m).value
    qMin := (rangeQMin m).value
    digest := imageDigest m }

end Sys2Proof.Machine
end

