-- ==== Sys2Proof/Machine/Profiling.lean ====
section
/-! DEFINITION. The meanings of PROFILE-LOAD, PROFILE-COMMIT, RESTART and the end of a store write (R182 to
R184). -/

namespace Sys2Proof.Machine

/-- A message that is malformed: counted, not answered (R171). -/
def State.malformedMessage (s : State) : State :=
  if s.port.restartPending then s
  else s.setPort { s.port with malformed := bump16 s.port.malformed, answer := none }

/-! ## PROFILE-LOAD (R182) -/

/-- The tests of R182, in order. -/
def State.profileLoadTests (offset : Word16) (bytes : List Byte) (s : State) : List (Bool × AnswerBody) :=
  [s.testWindow,
   (decide (offset.toNat + bytes.length ≤ Config.bufferSize), .refused .badRequest),
   s.testNotWriting]

/-- The bytes are written into the load buffer (R182). -/
def State.loadSlice (offset : Word16) (bytes : List Byte) (s : State) : State :=
  s.setPort { s.port with buffer := s.port.buffer.writeAll offset.toNat bytes }

/-- A PROFILE-LOAD of 1 to 32 bytes takes its length (R187). -/
def sliceLengthOk (bytes : List Byte) : Bool :=
  decide (1 ≤ bytes.length) && decide (bytes.length ≤ Config.maxSlice)

/-- PROFILE-LOAD (R182); another number of bytes makes the message malformed (R187). -/
def execProfileLoad (offset : Word16) (bytes : List Byte) (s : State) : Result :=
  .next (if sliceLengthOk bytes then
      s.request codeProfileLoad (s.profileLoadTests offset bytes) .accepted (State.loadSlice offset bytes)
    else s.malformedMessage)

/-! ## PROFILE-COMMIT (R183) -/

/-- The first check of R180 that the load buffer fails, judged against the straps as latched (R183). -/
def State.bufferFailure (s : State) : Option ProfileReason := imageFailure s.port.buffer false s.straps

/-- The four tests of R183, in order; the first is met in every mode that reaches it. -/
def State.profileCommitTests (s : State) : List (Bool × AnswerBody) :=
  [s.testWindow, s.testNotWriting,
   (s.bufferFailure.isNone, .refusedProfile (s.bufferFailure.getD .storeCheck))]

/-- The store write begins (R183). -/
def State.beginWrite (s : State) : State := s.setStore { s.store with write := .writing }

/-- PROFILE-COMMIT (R183). -/
def execProfileCommit (s : State) : Result :=
  .next (s.request codeProfileCommit s.profileCommitTests .accepted State.beginWrite)

/-! ## RESTART (R184) -/

/-- The answer is on its way; the port takes no further request (R184). -/
def State.awaitRestart (s : State) : State := s.setPort { s.port with restartPending := true }

/-- RESTART (R184). -/
def execRestart (s : State) : Result :=
  .next (s.request codeRestart [] .accepted State.awaitRestart)

/-! ## The store write (R183) -/

/-- The store after a write that took: the buffer's image, read back and checked (R183). -/
def Store.written (image : Memory) (t : Store) : Store :=
  { t with image := image, torn := false, write := if storeCheckFails image then .failed else .done }

/-- The store after a write that did not take: its CRC-32 does not match (R183, notes/assumptions/27.md). -/
def Store.spoilt (t : Store) : Store := { t with torn := true, write := .failed }

/-- The store write ends: DONE or FAILED, and PROFILE marked (R183). -/
def State.endWrite (took : Bool) (s : State) : State :=
  if s.store.write = .writing then
    State.mark .profile (s.setStore (if took then s.store.written s.port.buffer else s.store.spoilt))
  else s

/-- STORE-WRITE-END (R183). -/
def execStoreWriteEnd (took : Bool) (s : State) : Result := .next (s.endWrite took)

end Sys2Proof.Machine
end

