-- ==== Sys2Proof/Machine/Status.lean ====
section
/-! DEFINITION. The items of a STATUS answer, block by block (R172, R187, and the STATUS rule of each chapter). Codes
that 12 does not give, and the coding of items of several figures: DESIGN CHOICE, notes/assumptions/18.md. -/

namespace Sys2Proof.Machine

/-! ## Values -/

/-- A value that may be absent; a length of 0 marks it so (R187). -/
def optBytes (f : α → List Byte) : Option α → List Byte
  | some x => f x
  | none => []

/-- The time left on a timer in ms; not present where it is stopped with none set. -/
def Timer.bytes (t : Timer) : List Byte := if t.running || t.left != 0 then nat4 t.left else []

/-- The repeats of one item travel together: one group of items. -/
abbrev StatusGroup := List StatusItem

/-- An item that does not repeat carries index 0. -/
def single (value : List Byte) : Nat → Nat → StatusGroup := fun block item => [⟨block, item, 0, value⟩]

/-- The repeats of an item, their indices given. -/
def repeated (values : List (Nat × List Byte)) : Nat → Nat → StatusGroup :=
  fun block item => values.map (fun v => ⟨block, item, v.1, v.2⟩)

/-- The repeats of an item for gates A and B, 1 and 2. -/
def perGate (f : Gate → List Byte) : Nat → Nat → StatusGroup := repeated [(1, f .a), (2, f .b)]

/-- The groups of a block, its items numbered from 1. -/
def blockGroups (block : Nat) (items : List (Nat → Nat → StatusGroup)) : List StatusGroup :=
  items.zipIdx.map (fun p => p.1 block (p.2 + 1))

/-- A state of two names in one byte, 1 the name its rule lists first (R187): active and inactive (R160), energised and
de-energised (R161), on and off (R168). -/
def twoName (first : Bool) : List Byte := if first then nat1 1 else nat1 2

/-- A value that the station shows only where a condition holds. -/
def onlyIf (c : Bool) (value : List Byte) : List Byte := if c then value else []

/-! ## Block 1: station and port (R172) -/

/-- Result, reason and count, the result numbered in the order of R180: INVALID, VALID, VALID-CLAMPED. -/
def resultBytes : ProfileResult → List Byte
  | .invalid r => nat1 1 ++ nat1 (reasonCode r) ++ nat2 0
  | .valid => nat1 2 ++ nat1 0 ++ nat2 0
  | .validClamped n => nat1 3 ++ nat1 0 ++ nat2 n

def writeCode : WriteState → Nat
  | .idle => 1 | .writing => 2 | .done => 3 | .failed => 4

def State.statusStation (s : State) : List (Nat → Nat → StatusGroup) :=
  [single (nat1 s.straps.station ++ nat1 (roleCode s.straps.role) ++ nat1 s.straps.rate),
   single (nat1 (modeCode s.mode)),
   single (resultBytes s.profileResult),
   single (optBytes (fun p => nat4 p.issue) s.profile),
   single (nat1 (writeCode s.store.write)),
   single (nat2 s.port.malformed),
   single (bytes2 (s.port.pendingEvents.setWidth 16) ++ bytes2 (s.port.enabledEvents.setWidth 16))]

/-! ## Block 2: column (R18, R20) -/

/-- The records of R20 as items 1 to 8, in its order. R18's figures follow as items 9 to 13: DESIGN CHOICE, R187 citing
R20 alone for this block (notes/assumptions/18.md). -/
def State.statusColumn (s : State) : List (Nat → Nat → StatusGroup) :=
  [single (nat4 s.column.spillVolume), single (nat2 s.column.spillCount),
   single (nat4 s.column.underrunVolume), single (nat2 s.column.underrunCount),
   single (nat2 s.column.driftCount), single (nat2 s.column.mergeCount),
   single (optBytes (fun r => readingBytes (some r)) s.column.lastReading),
   single (optBytes (fun r => nat1 (modelReasonCode r)) s.column.lastReason),
   single (nat1 (if s.column.seeded then 2 else 1)), single (nat4 s.columnVolume),
   single (nat2 s.modelSurface), single (nat4 s.zone), single (nat4 s.wetZone)]

/-! ## Block 3: watch (R55) -/

def wetCode : WetStatus → Nat
  | .clear => 1 | .restricted => 2 | .refused => 3

def gapBytes (g : GapEstimate) : List Byte := int4 g.gap ++ nat2 g.surface ++ nat4 g.time

def State.statusWatch (s : State) : List (Nat → Nat → StatusGroup) :=
  let draw := s.straps.role == .draw
  [single (nat1 (wetCode s.watch.wet)),
   single (optBytes gapBytes s.watch.gap),
   perGate (fun g => onlyIf draw (nat4 (s.watch.windows.get g).count)),
   single (onlyIf draw s.watch.wetRest.bytes)]

/-! ## Block 4: holds (R72) -/

def State.statusHolds (s : State) : List (Nat → Nat → StatusGroup) :=
  [single ((s.holds.filter (·.holder == s.own)).flatMap holdBytes), single (nat2 s.holds.length)]

/-! ## Block 5: tip and reservations (R93) -/

/-- The load of the tip in hand (R75). -/
def TipStage.load : TipStage → Option Load
  | .idle => none
  | .requested l | .offered l | .tipping l | .settling l => some l

def loadBytes (l : Load) : List Byte :=
  nat1 l.cls ++ nat4 l.volume ++ nat1 (moistureCode l.moisture) ++
  nat1 (flagsCode l.oversize l.estimated l.unauthorised)

def outcomeBytes (o : TipOutcome) : List Byte :=
  (match o.outcome with
    | .tipped => nat1 1 ++ nat1 0
    | .noRoom => nat1 2 ++ nat1 0
    | .withdrawn c => nat1 3 ++ nat1 (withdrawCode c)) ++ loadBytes o.load ++ nat4 o.time

/-- The items of R93. That the two timers are items 3 and 4, the two lamp outputs item 5, and the cumulative volume and
its generation items 7 and 8 is DESIGN CHOICE (notes/assumptions/18.md). -/
def State.statusTip (s : State) : List (Nat → Nat → StatusGroup) :=
  [single (nat1 (tipCode s.tip.stage)),
   single (optBytes loadBytes s.tip.stage.load),
   single s.tip.offerTimer.bytes, single s.tip.settleTimer.bytes,
   single (twoName (s.drive 0) ++ twoName (s.drive 1)),
   single (optBytes outcomeBytes s.tip.lastOutcome),
   single (nat4 s.tip.cumulative), single (nat1 s.store.generation),
   single (nat2 s.reservations.length),
   single (onlyIf s.column.seeded (nat4 (s.room s.own s.reservations)))]

/-! ## Block 6: breaker (R104) -/

def breakerFaultCode : BreakerFault → Nat
  | .notParked => 1 | .parkLost => 2

def workEndCode : WorkEnd → Nat
  | .stop => 1 | .renewalLapse => 2 | .hold => 3 | .stopLoop => 4

def BreakerState.faultBytes : BreakerState → List Byte
  | .fault c => nat1 (breakerFaultCode c)
  | .parked | .working _ | .returning => []

def BreakerState.tokenBytes : BreakerState → List Byte
  | .working t => bool1 t
  | .parked | .returning | .fault _ => []

def State.statusBreaker (s : State) : List (Nat → Nat → StatusGroup) :=
  [single (nat1 (breakerCode s.breaker.state)), single s.breaker.state.faultBytes,
   single s.breaker.state.tokenBytes, single s.breaker.renewal.bytes, single s.breaker.returning.bytes,
   single (twoName (s.drive 2)), single (twoName s.parkActive),
   single (optBytes (fun e => nat1 (workEndCode e.1) ++ nat4 e.2) s.breaker.lastEnd)]

/-! ## Block 7: gates (R126) -/

def gateFaultCode : GateFault → Nat
  | .strokeTimeout => 1 | .limitConflict => 2 | .gateDrift => 3 | .loopOpen => 4

def endCauseCode : EndCause → Nat
  | .stop => 1 | .renewalLapse => 2 | .hold => 3 | .receiverLost => 4 | .cushion => 5
  | .wetLimit => 6 | .batchDone => 7 | .starved => 8 | .stopLoop => 9

def GateState.faultBytes : GateState → List Byte
  | .fault c => nat1 (gateFaultCode c)
  | .closed | .warning | .opening | .opened | .closing => []

def drawModeCode : DrawMode → Nat
  | .held => 1 | .batch _ => 2

def DrawMode.targetBytes : DrawMode → List Byte
  | .held => []
  | .batch t => nat4 t

def DrawMode.targetOrZero : DrawMode → Nat
  | .held => 0
  | .batch t => t

def recordBytes (r : DrawRecord) : List Byte :=
  nat1 (drawModeCode r.mode) ++ nat4 r.mode.targetOrZero ++ nat4 r.mass ++
  nat1 ((r.endCause.map endCauseCode).getD 0) ++ bool1 r.wetRestricted ++
  (match r.outcome with
    | some (true, t) => nat1 1 ++ nat4 t
    | some (false, t) => nat1 2 ++ nat4 t
    | none => nat1 0 ++ nat4 0)

/-- A gate's open valve, close valve and horn as driven (R168, R169). -/
def State.gateDrives (g : Gate) (s : State) : List Bool :=
  match g with
  | .a => [s.drive 0, s.drive 1, s.drive 2]
  | .b => [s.drive 3, s.drive 4, s.drive 5]

def State.statusGates (s : State) : List (Nat → Nat → StatusGroup) :=
  [perGate (fun g => nat1 (gateStateCode (s.gate g).state)),
   perGate (fun g => (s.gate g).state.faultBytes),
   perGate (fun g => twoName (s.active (openLimitInput g)) ++ twoName (s.active (closedLimitInput g)) ++
     twoName (s.active (readyInput g))),
   perGate (fun g => (s.gateDrives g).flatMap twoName),
   perGate (fun g => optBytes (fun m => nat1 (drawModeCode m)) (s.gate g).mode),
   perGate (fun g => optBytes DrawMode.targetBytes (s.gate g).mode),
   perGate (fun g => optBytes nat4 (s.gate g).wetCap),
   perGate (fun g => nat4 (s.gate g).mass),
   perGate (fun g => optBytes bool1 (s.gate g).token),
   perGate (fun g => (s.gate g).warning.bytes), perGate (fun g => (s.gate g).stroke.bytes),
   perGate (fun g => (s.gate g).renewal.bytes),
   perGate (fun g => optBytes recordBytes (s.gate g).record),
   single (nat4 s.drawn.cumulative), single (nat1 s.store.generation), single (nat4 s.drawn.reported),
   single (optBytes (fun p => nat4 p.cushion) s.profile), single (nat4 s.columnVolume)]

/-! ## Block 8: line (R145) -/

def lineReasonCode : LineReason → Nat
  | .isolated => 1 | .active => 2 | .duplicate => 3 | .stranger => 4

/-- Kind and class of each queued frame, by its place from 1, the oldest (R187). An empty queue gives no such item at
all, neither one of length 0 nor one that is not available: DESIGN CHOICE (notes/assumptions/18.md). -/
def queueValues (q : List QueuedFrame) : List (Nat × List Byte) :=
  q.zipIdx.map (fun p => (p.2 + 1, nat1 (kindCode p.1.frame.kind) ++ nat1 p.1.frame.cls))

/-- The items of R145. The number of queued frames, and the kind and class of each, are two items, 3 and 4: DESIGN
CHOICE (notes/assumptions/18.md). -/
def State.statusLine (s : State) : List (Nat → Nat → StatusGroup) :=
  let c := s.line.counters
  [single (nat1 s.straps.rate), single (nat1 (lineCode s.line.state)), single (nat2 s.line.queue.length),
   repeated (queueValues s.line.queue), single (nat2 s.line.consecutive),
   single (onlyIf (s.line.state == .isolated) s.line.retryTimer.bytes), single (nat1 s.line.nextSeq),
   single (nat2 c.sent), single (nat2 c.arbitrationLosses), single (nat2 c.transmitErrors),
   single (nat2 c.discards), single (nat2 c.drops), single (nat2 c.received), single (nat2 c.crcErrors),
   single (nat2 c.lengthErrors), single (nat2 c.truncations), single (nat2 c.ownNumber),
   single (nat2 c.strangers), single (nat2 c.unknownKinds),
   single (optBytes (fun r => nat1 (lineReasonCode r)) s.line.lastReason)]

/-! ## Block 9: peers (R158) -/

/-- The number of peers in a presence state. -/
def State.countPresence (p : Presence) (s : State) : Nat := (s.peers.records.filter (·.presence == p)).length

/-- The own cumulative counter of the role (R154). -/
def State.ownCounter (s : State) : Nat :=
  match s.straps.role with
  | .tip => s.tip.cumulative
  | .draw => s.drawn.cumulative

def State.statusPeers (s : State) : List (Nat → Nat → StatusGroup) :=
  [single (nat1 (modeCode s.mode)),
   single (onlyIf (s.mode == .listening) s.peers.rollCall.bytes),
   single (nat2 (s.countPresence .unheard) ++ nat2 (s.countPresence .present) ++ nat2 (s.countPresence .silent)),
   single (nat2 (s.peers.records.filter (·.mismatch)).length),
   single (optBytes (fun p => nat2 p.digest) s.profile),
   single (nat1 s.store.generation), single (nat4 s.ownCounter), single s.peers.stateTimer.bytes]

/-! ## Block 10: field terminal (R170) -/

/-- A code of a function per gate: A before B. -/
def gateBase (g : Gate) (code : Nat) : Nat :=
  match g with
  | .a => code
  | .b => code + 3

/-- Functions of the inputs in the order of R160, the TIP station's first; that spare is 10, after every function, is
DESIGN CHOICE (notes/assumptions/18.md). -/
def functionCode : InputFunction → Nat
  | .stopLoop => 1 | .truckPresent => 2 | .breakerPark => 3
  | .closedLimit g => gateBase g 4 | .openLimit g => gateBase g 5 | .receiverReady g => gateBase g 6
  | .spare => 10

/-- Functions of the outputs in the order of R168, the TIP station's first; that one not assigned is 10, after every
function, is DESIGN CHOICE (notes/assumptions/18.md). -/
def outputFunctionCode (role : Role) (out : Fin 6) : Nat :=
  match role with
  | .tip => if out.val < 3 then out.val + 1 else 10
  | .draw => out.val + 4

/-- The reasons in the order of R165. -/
def rejectCode : RejectReason → Nat
  | .quality => 1 | .range => 2 | .none => 3

def rawReadingBytes (r : RawReading) : List Byte :=
  nat2 r.distance ++ nat1 r.quality ++ nat4 r.time ++ nat1 (rejectCode r.reason)

def acceptedBytes (r : AcceptedReading) : List Byte := nat2 r.depth ++ nat1 r.quality ++ nat4 r.time

/-- A value for each input, IN1 to IN12 taking their number. -/
def perInput (f : InputNo → List Byte) : Nat → Nat → StatusGroup :=
  repeated ((List.finRange 12).map (fun i => (i.val + 1, f i)))

/-- A value for each output, OUT1 to OUT6 taking their number. -/
def perOutput (f : Fin 6 → List Byte) : Nat → Nat → StatusGroup :=
  repeated ((List.finRange 6).map (fun i => (i.val + 1, f i)))

/-- The items of R170. The raw pulse counts take the 4 bytes of their range whatever they stand at: DESIGN CHOICE
(notes/assumptions/18.md). -/
def State.statusField (s : State) : List (Nat → Nat → StatusGroup) :=
  [perInput (fun i => nat1 (functionCode (inputFunction s.straps.role i))),
   perInput (fun i => twoName s.field.inputs[i].raw),
   perInput (fun i => optBytes twoName s.field.inputs[i].conditioned),
   perInput (fun i => bool1 s.field.inputs[i].forced),
   perGate (fun g => nat4 (s.field.pulses.get g)),
   single (optBytes rawReadingBytes s.field.lastRaw),
   single (optBytes acceptedBytes s.field.lastAccepted),
   single (optBytes (fun r => nat2 r.1 ++ nat1 r.2) s.field.pendingReading),
   single s.field.pacing.bytes,
   single (nat2 s.field.malformed), single (nat2 s.field.ignored),
   single (nat2 s.field.rejectedQuality), single (nat2 s.field.rejectedRange),
   perOutput (fun o => nat1 (outputFunctionCode s.straps.role o)),
   perOutput (fun o => twoName (s.command o)), perOutput (fun o => twoName (s.drive o)),
   single (nat1 (bitSet [s.mode == .starting, s.mode == .safe, s.loopOpen]))]

/-! ## The answer (R172, R187) -/

/-- An item whose value is not available. -/
def StatusItem.unavailable (i : StatusItem) : StatusItem := { i with value := [] }

/-- The items of blocks that have not yet taken their restart state are marked not available (R172). -/
def State.available (groups : List StatusGroup) (s : State) : List StatusGroup :=
  if s.mode = .starting ∧ s.blocksStarted = false then groups.map (·.map StatusItem.unavailable) else groups

/-- The groups of a block that only one role has; the other role shows its items as not present. -/
def State.forRole (r : Role) (groups : List StatusGroup) (s : State) : List StatusGroup :=
  if s.straps.role = r then groups else groups.map (·.map StatusItem.unavailable)

/-- Every item of STATUS, in block and item order. -/
def State.statusGroups (s : State) : List StatusGroup :=
  blockGroups 1 s.statusStation ++
  s.available (blockGroups 2 s.statusColumn ++ blockGroups 3 s.statusWatch ++ blockGroups 4 s.statusHolds ++
    s.forRole .tip (blockGroups 5 s.statusTip) ++ s.forRole .tip (blockGroups 6 s.statusBreaker) ++
    s.forRole .draw (blockGroups 7 s.statusGates) ++ blockGroups 8 s.statusLine ++ blockGroups 9 s.statusPeers) ++
  blockGroups 10 s.statusField

/-- The item that closes the answer with the last item of block 10. -/
def closingItem : StatusItem := ⟨0, 0, 0, []⟩

/-- The bytes of a group in an answer. -/
def groupLength (g : StatusGroup) : Nat := (g.map (fun i => 4 + i.value.length)).sum

/-- Whole groups in order while they fit; the last group goes with the closing item. -/
def fillAnswer : List StatusGroup → Nat → List StatusItem
  | [], _ => []
  | [last], space => if groupLength last + 4 ≤ space then last ++ [closingItem] else []
  | g :: rest, space => if groupLength g ≤ space then g ++ fillAnswer rest (space - groupLength g) else []

/-- The group stands at or after the block and item named. -/
def fromNamed (block item : Nat) (g : StatusGroup) : Bool :=
  g.any (fun i => decide (block < i.block) || (i.block == block && decide (item ≤ i.item)))

/-- An answer's body holds at most 250 bytes: an L of 255 less length, code, request and CRC (R187). -/
def bodySpace : Nat := Config.maxAnswer - 5

/-- The items of an answer that begins at a block and item (R187). One that names an item past the last of block 10 gets
none, and no closing item: DESIGN CHOICE (notes/assumptions/34.md). -/
def State.statusFrom (block item : Nat) (s : State) : List StatusItem :=
  fillAnswer (s.statusGroups.filter (fromNamed block item)) bodySpace

end Sys2Proof.Machine
end

