-- ==== Sys2Proof/Machine/Reporting.lean ====
section
/-! DEFINITION. The meanings of STATUS, REPORT, REPORT-NEXT, EVENTS, EVENT-ACK, EVENT-ENABLE and of messages that are
no request (R171, R172, R175 to R177). -/

namespace Sys2Proof.Machine

/-! ## STATUS (R172) -/

/-- The block and first item a STATUS names, or block 1, item 1 (R187). -/
def statusStart (first : Option (Byte × Byte)) : Nat × Nat :=
  match first with
  | some (b, i) => (b.toNat, i.toNat)
  | none => (1, 1)

/-- The block is one of the ten, and items count from 1 (R187, notes/assumptions/34.md). -/
def statusInRange (start : Nat × Nat) : Bool :=
  decide (1 ≤ start.1) && decide (start.1 ≤ 10) && decide (1 ≤ start.2)

/-- The answer to STATUS. -/
def State.statusAnswer (start : Nat × Nat) (s : State) : AnswerBody :=
  if statusInRange start then .status (s.statusFrom start.1 start.2) else .refused .badRequest

/-- STATUS, answered in every mode (R171, R172). -/
def execStatus (first : Option (Byte × Byte)) (s : State) : Result :=
  .next (if s.port.restartPending then s
    else s.giveAnswer codeStatus (s.statusAnswer (statusStart first)))

/-! ## Reports (R176, R177) -/

/-- The head of a COLUMN report (R176). -/
def State.columnHead (s : State) : ColumnHead :=
  ⟨s.column.seeded, s.columnVolume, s.modelSurface, s.zone, s.wetZone, s.column⟩

/-- The snapshot of the collection a report kind names (R158, R176). -/
def State.snapshotOf (kind : Byte) (s : State) : Option Snapshot :=
  if kind.toNat = 1 then some (.column s.columnHead s.column.segments)
  else if kind.toNat = 2 then some (.holds s.holds)
  else if kind.toNat = 3 then
    some (.peers (s.peers.records.map (fun r => (r, r.lastArrival.map (fun t => s.time - t)))))
  else if kind.toNat = 4 then some (.reservations s.reservations)
  else none

/-- The report buffer is replaced. -/
def State.setReport (r : Option ReportBuffer) (s : State) : State := s.setPort { s.port with report := r }

/-- REPORT (R176); a kind that names no collection is refused (R171). -/
def execReport (kind : Byte) (s : State) : Result :=
  .next (match s.snapshotOf kind with
    | some snap =>
      s.request codeReport [] (.part snap 1 snap.parts) (State.setReport (some ⟨snap, 2⟩))
    | none => s.request codeReport [(false, .refused .badRequest)] .accepted id)

/-- REPORT-NEXT: the next part, END, or NOT-ACTIVE (R177). -/
def execReportNext (s : State) : Result :=
  .next (match s.port.report with
    | some b =>
      if b.next ≤ b.snapshot.parts then
        s.request codeReportNext [] (.part b.snapshot b.next b.snapshot.parts)
          (State.setReport (some { b with next := b.next + 1 }))
      else s.request codeReportNext [] (.endOfReport b.snapshot b.snapshot.parts) (State.setReport none)
    | none => s.request codeReportNext [(false, .refused .notActive)] .accepted id)

/-! ## Events (R175) -/

/-- EVENTS (R175). -/
def execEvents (s : State) : Result :=
  .next (s.request codeEvents [] (.events s.port.pendingEvents s.port.enabledEvents) id)

/-- The pending set with kinds cleared. -/
def State.pendingAfterAck (kinds : Word16) (s : State) : BitVec 12 := s.port.pendingEvents &&& ~~~ (kindsOf kinds)

/-- The pending flags of the kinds named are cleared (R175). -/
def State.acknowledge (kinds : Word16) (s : State) : State :=
  s.setPort { s.port with pendingEvents := s.pendingAfterAck kinds }

/-- EVENT-ACK (R175). -/
def execEventAck (kinds : Word16) (s : State) : Result :=
  .next (s.request codeEventAck [] (.acceptedEvents (s.pendingAfterAck kinds)) (State.acknowledge kinds))

/-- The enables are replaced (R175). -/
def State.enable (kinds : Word16) (s : State) : State :=
  s.setPort { s.port with enabledEvents := kindsOf kinds }

/-- EVENT-ENABLE (R175). -/
def execEventEnable (kinds : Word16) (s : State) : Result :=
  .next (s.request codeEventEnable [] .accepted (State.enable kinds))

/-! ## Messages that are no request (R171) -/

/-- A malformed message (R171). -/
def execMalformedMessage (s : State) : Result := .next s.malformedMessage

/-- A message that names no request is refused with BAD-REQUEST (R171, notes/assumptions/11.md). -/
def State.refuseUnknown (code : Byte) (s : State) : State :=
  if s.port.restartPending then s else s.giveAnswer code.toNat (.refused .badRequest)

/-- A well-formed message that names no request, or no report kind (R171). -/
def State.unknownMessage (w : UnknownMessage) (s : State) : State :=
  match w with
  | .code c => s.refuseUnknown c
  | .reportKind _ => s.request codeReport [(false, .refused .badRequest)] .accepted id

/-- UNKNOWN-REQUEST (R171). -/
def execUnknownRequest (w : UnknownMessage) (s : State) : Result := .next (s.unknownMessage w)

end Sys2Proof.Machine
end

