-- ==== Sys2Proof/Machine/Restarts.lean ====
section
/-! DEFINITION. The meanings of the two restarts and of the departure from STARTING (R178 to R181, and each block's
restart rule). -/

namespace Sys2Proof.Machine

/-! ## Straps (R179 step 1) -/

/-- The weight of a pin. -/
def pinValue (pin : Bool) (weight : Nat) : Nat := if pin then weight else 0

/-- The line rate of a rate code, kbit/s (R127, R179). -/
def rateOf (code : Nat) : Nat :=
  if code = 1 then 20 else if code = 2 then 50 else 10

/-- The straps as latched (R179). -/
def latchStraps (p : StrapPins) : Straps :=
  { station := pinValue p.stn0 1 + pinValue p.stn1 2 + pinValue p.stn2 4 + 1
    role := if p.role then .draw else .tip
    rate := rateOf (pinValue p.rate0 1 + pinValue p.rate1 2) }

/-! ## The store at a restart (R179 steps 2 and 3, R183) -/

/-- A write in progress is cut short; a COLD restart advances the count generation; the write state is IDLE. -/
def Store.restarted (cold : Bool) (t : Store) : Store :=
  { t with torn := t.torn || t.write == .writing
           generation := if cold then (t.generation + 1) % 256 else t.generation
           write := .idle }

/-- The first check that the stored image fails (R180). -/
def Store.failure (straps : Straps) (t : Store) : Option ProfileReason := imageFailure t.image t.torn straps

/-- The profile that comes into force, if any (R180). -/
def Store.profile (straps : Straps) (t : Store) : Option Profile :=
  match t.failure straps with
  | some _ => none
  | none => some (imageProfile t.image)

/-- The profile result (R180). -/
def Store.result (straps : Straps) (t : Store) : ProfileResult :=
  match t.failure straps with
  | some r => .invalid r
  | none => if clampCount t.image = 0 then .valid else .validClamped (clampCount t.image)

/-! ## Blocks (R10, R38, R39, R75, R105, R125, R146) -/

/-- The column model after a WARM restart: the list kept under the same bands, the statistics cleared (R10,
R39). -/
def Column.warm (old new : Option Profile) (c : Column) : Column :=
  match new with
  | none => Column.cold
  | some p =>
    let keep := old.map (·.bands) == some p.bands
    { Column.cold with
      seeded := keep && c.seeded
      segments := if keep then c.segments else []
      remainder := if c.remainder < p.density then c.remainder else 0 }

/-- The baseline a WARM restart keeps for a peer: where it has the same number and role, and a profile is in force
(R146). -/
def keptBaseline (old : List PeerRecord) (station : Nat) (role : Role) : Option Baseline :=
  ((old.find? (·.station == station)).bind
    (fun r => if r.role = some role then r.baseline else none))

/-- The stations of a table in order of number (R158). -/
def tableOrder (l : List StationEntry) : List StationEntry :=
  [1, 2, 3, 4, 5, 6, 7, 8].filterMap (fun n => l.find? (·.number == n))

/-- The peer table after a restart (R146). -/
def PeerTable.restarted (cold : Bool) (own : Nat) (p : Option Profile) (old : PeerTable) : PeerTable :=
  match p with
  | none => PeerTable.safe own
  | some p =>
    ⟨((tableOrder p.stations).filter (·.number != own)).map (fun e =>
        PeerRecord.restarted e.number (some e.role)
          (if cold then none else keptBaseline old.records e.number e.role)),
     Timer.stopped, Timer.stopped⟩

/-- The check of the stored image marks PROFILE: for any clamp where it passes (R180); where a check from the station
table on fails, for the headroom alone, which is clamped before that check (R2, notes/assumptions/36.md). -/
def Store.marks (straps : Straps) (t : Store) : Bool :=
  match t.failure straps with
  | none => clampCount t.image != 0
  | some .storeCheck | some .geometry => false
  | some .stationTable | some .limitDepth | some .thresholds => (rangeHeadroom t.image).clamped

/-- The port at the start of STARTING: RESTART pending, with PROFILE where the check marks it, every kind enabled, the
window open, no answer (R174, R177). Its buffers and counter wait for step 5 of R179. -/
def Port.atRestart (profile : Bool) (p : Port) : Port :=
  { p with
    pendingEvents := if profile then EventKind.restart.flag ||| EventKind.profile.flag else EventKind.restart.flag
    enabledEvents := BitVec.allOnes 12, answer := none, restartPending := false, window := true }

/-- Either restart: steps 1 to 3 of R179, and each block's restart values; those that wait for the inputs, and step 5,
follow in `State.startBlocks` (notes/assumptions/7.md). -/
def State.restart (cold : Bool) (pins : StrapPins) (s : State) : State :=
  let straps := latchStraps pins
  let store := s.store.restarted cold
  let profile := store.profile straps
  let drawn := if cold then 0 else s.drawn.cumulative
  { pending := s.pending, openReads := s.openReads
    time := 0, mode := .starting, blocksStarted := false, restartCauses := Causes.ofRestart
    pins := pins, straps := straps, store := store
    profile := profile, profileResult := store.result straps
    column := if cold then Column.cold else s.column.warm s.profile profile
    watch := Watch.restarted, holds := [], reservations := []
    tip := Tip.restarted (if cold then 0 else s.tip.cumulative)
    breaker := Breaker.restarted false
    gates := ⟨GateSeq.restarted false false, GateSeq.restarted false false⟩
    drawn := ⟨drawn, drawn, false⟩
    line := Line.restarted
    peers := s.peers.restarted cold straps.station profile
    field := Field.restarted (s.field.inputs.map (·.raw))
    port := s.port.atRestart (store.marks straps) }

/-- COLD-RESTART (R179). -/
def execColdRestart (pins : StrapPins) (s : State) : Result := .next (s.restart true pins)

/-- WARM-RESTART (R179, R184). -/
def execWarmRestart (pins : StrapPins) (s : State) : Result := .next (s.restart false pins)

/-! ## Leaving STARTING (R71, R140, R151, R153, R178) -/

/-- The mode STARTING is left for (R178). -/
def State.modeAfterStarting (s : State) : Mode := if s.profile.isSome then .listening else .safe

/-- The restart HALT (R71). -/
def State.restartHold (s : State) : Hold := ⟨s.own, 0, .halt s.restartCauses⟩

/-- The roll-call starts in LISTENING (R151). -/
def State.startRollCall (s : State) : State :=
  if s.mode = .listening then
    s.setPeers { s.peers with rollCall := Timer.start (Config.rollCallPeriods * s.prof.statePeriod) }
  else s

/-- The departure from STARTING (R178). -/
def State.depart (s : State) : State :=
  let t := ((s.setMode s.modeAfterStarting).setHolds (s.holds ++ [s.restartHold])).setLine
    { s.line with state := .active }
  (t.startStateTimer.handOver (.state none)).startRollCall

/-- LEAVE-STARTING: once the blocks have taken their restart state (R178). -/
def execLeaveStarting (s : State) : Result :=
  .next (if s.mode = .starting ∧ s.blocksStarted then s.depart else s)

end Sys2Proof.Machine
end

