-- ==== Sys2Proof/Machine/Surfacing.lean ====
section
/-! DEFINITION. The meanings of SEED, of the ranging records and of the pacing timer (R34, R165 to R167, R173). -/

namespace Sys2Proof.Machine

/-- SEED: the depth clamped to D_c is handed over as a MANUAL SURFACE (R34, R173). -/
def execSeed (depth : Word16) (s : State) : Result :=
  .next (s.request codeSeed [s.testLive] .accepted
    (State.handOverSurface (min depth.toNat s.prof.chute) .manual))

/-! ## Ranging records (R165 to R167) -/

/-- A sensor is fitted at this station in the profile in force (R165 test 2). -/
def State.sensorFitted (s : State) : Bool := (s.ownEntry.map (·.sensor)).getD false

/-- The maximum range at this station. -/
def State.maxRange (s : State) : Nat := (s.ownEntry.map (·.maxRange)).getD 0

/-- S_r: mount depth plus distance, clamped to D_c (R166). -/
def State.surfaceOf (distance : Nat) (s : State) : Nat :=
  min ((s.ownEntry.map (·.mountDepth)).getD 0 + distance) s.prof.chute

/-- The last raw reading is replaced (R165). -/
def State.noteRaw (distance quality : Nat) (r : RejectReason) (s : State) : State :=
  s.setField { s.field with lastRaw := some ⟨distance, quality, s.time, r⟩ }

/-- The pacing timer in full. -/
def State.pacingStart (s : State) : Timer := Timer.start (seconds s.prof.surfaceInterval)

/-- A reading is offered to pacing (R167). -/
def State.pace (depth quality : Nat) (s : State) : State :=
  if s.field.pacing.running then s.setField { s.field with pendingReading := some (depth, quality) }
  else (s.setField { s.field with pacing := s.pacingStart }).handOverSurface depth (.numeric quality)

/-- A reading that passed the tests is taken (R166, R167). -/
def State.acceptReading (distance quality : Nat) (s : State) : State :=
  let t := s.noteRaw distance quality .none
  (t.setField { t.field with lastAccepted := some ⟨s.surfaceOf distance, quality, s.time⟩ }).pace
    (s.surfaceOf distance) quality

/-- A record with a good check, at tests 2 to 4 (R165). -/
def State.takeRecord (distance quality : Nat) (s : State) : State :=
  if !(s.mode.live && s.sensorFitted) then s.setField { s.field with ignored := bump16 s.field.ignored }
  else if quality < s.prof.qMin then
    (s.setField { s.field with rejectedQuality := bump16 s.field.rejectedQuality }).noteRaw distance quality .quality
  else if s.maxRange < distance then
    (s.setField { s.field with rejectedRange := bump16 s.field.rejectedRange }).noteRaw distance quality .range
  else s.acceptReading distance quality

/-- A record received on the ranging input (R165). -/
def State.rangingInput (r : RangingRecord) (s : State) : State :=
  match r with
  | .malformed => s.setField { s.field with malformed := bump16 s.field.malformed }
  | .record distance quality => s.takeRecord distance.toNat quality.toNat

/-- RANGING-RECORD (R165 to R167). -/
def execRangingRecord (r : RangingRecord) (s : State) : Result := event (State.rangingInput r) s

/-- The pacing timer runs out: the pending reading is handed over, or the timer stops (R167). -/
def State.pacingRunsOut (s : State) : State :=
  if s.field.pacing.running then
    match s.field.pendingReading with
    | some (depth, quality) =>
      (s.setField { s.field with pendingReading := none, pacing := s.pacingStart }).handOverSurface depth
        (.numeric quality)
    | none => s.setField { s.field with pacing := Timer.stopped }
  else s

/-- Expiry of the pacing timer (R167). -/
def execPacingTimerExpiry (s : State) : Result := event State.pacingRunsOut s

end Sys2Proof.Machine
end

