-- ==== Sys2Proof/Machine/Tipping.lean ====
section
/-! DEFINITION. The meanings of the tipping commands: TIP, TIP-CANCEL, the truck-present edges and the offer and
settle timers (R76 to R87). -/

namespace Sys2Proof.Machine

/-! ## TIP (R76, R77) -/

/-- The tip is IDLE and no OFFER of this station stands in the transmit queue (R76 test 9). -/
def State.tipFree (s : State) : Bool :=
  s.tip.stage == .idle && !s.line.queue.any (QueuedFrame.hasKind .offer)

/-- The eleven tests of R76, in order. -/
def State.tipTests (cls moisture : Byte) (s : State) : List (Bool × AnswerBody) :=
  [s.testTipRole,
   (decide (1 ≤ cls.toNat) && decide (cls.toNat ≤ 6) && (moistureOf moisture).isSome, .refused .badRequest),
   s.testReady, s.testNoHalt, s.testNoOwnEntry, s.testNoHangup, s.testSeeded, s.testActiveLine,
   (s.tipFree, .busy),
   (s.breakerParked, .refused .breakerOut),
   (decide (s.prof.classVolume cls.toNat ≤ s.freshRoom), .refused .noRoom)]

/-- The tip goes to REQUESTED and its OFFER is queued (R77). -/
def State.requestTip (cls : Nat) (m : Moisture) (s : State) : State :=
  (s.setStage (.requested (s.requestedLoad cls m))).handOver (.offer cls (s.prof.classVolume cls) m)

/-- TIP (R76, R77). -/
def execTip (cls moisture : Byte) (s : State) : Result :=
  .next (s.request codeTip (s.tipTests cls moisture) .accepted
    (State.requestTip cls.toNat (moistureRead moisture)))

/-! ## TIP-CANCEL (R80) -/

/-- The tests of R80, in order. -/
def State.tipCancelTests (s : State) : List (Bool × AnswerBody) :=
  [s.testTipRole, s.testLive,
   (match s.tip.stage with
    | .tipping _ | .settling _ => false
    | .idle | .requested _ | .offered _ => true, .refused .tipActive),
   (s.tip.stage != .idle, .refused .notActive)]

/-- TIP-CANCEL (R80). -/
def execTipCancel (s : State) : Result :=
  .next (s.request codeTipCancel s.tipCancelTests .accepted (State.withdrawTip .cancel))

/-! ## The truck (R82, R86) -/

/-- The OFFER of a REQUESTED tip that a truck overtook: removed, or followed by a WITHDRAW whose cause no rule
names, a free value (R82, notes/assumptions/33.md). -/
def State.overtakeOffer (s : State) : State :=
  if s.line.hasFreshOffer then s.removeOffer
  else
    (s.setOpenReads (s.openReads + 1)).handOver (.withdraw (causeAt (Config.overtakenCause s.openReads)))

/-- The truck comes onto the grizzly (R82, R103). -/
def State.truckArrives (s : State) : State :=
  match s.tip.stage with
  | .offered load => s.enterTipping load
  | .requested load =>
    (s.enterTipping { load with unauthorised := true, estimated := false }).overtakeOffer
  | .idle => s.enterTipping s.unknownLoad
  | .tipping _ => s
  | .settling load => (s.countLoad load).enterTipping s.unknownLoad

/-- The truck leaves: TIPPING goes to SETTLING, the settle timer running where the breaker is PARKED (R86). -/
def State.truckLeaves (s : State) : State :=
  match s.tip.stage with
  | .tipping load =>
    s.setTip { s.tip with stage := .settling load
                          settleTimer := if s.breakerParked then Timer.start s.settleMs else Timer.stopped }
  | .idle | .requested _ | .offered _ | .settling _ => s

/-- TRUCK-PRESENT becomes active (R82, R163). -/
def execTruckPresentActive (s : State) : Result :=
  event (State.edge .truckPresent truckInput true (State.whenLive State.truckArrives)) s

/-- TRUCK-PRESENT becomes inactive (R86, R163). -/
def execTruckPresentInactive (s : State) : Result :=
  event (State.edge .truckPresent truckInput false (State.whenLive State.truckLeaves)) s

/-! ## Timers (R81, R87) -/

/-- The offer timer runs out in OFFERED (R81). -/
def State.offerRunsOut (s : State) : State :=
  match s.tip.stage with
  | .offered _ => if s.tip.offerTimer.running then s.withdrawTip .timeout else s
  | .idle | .requested _ | .tipping _ | .settling _ => s

/-- The settle timer runs out in SETTLING: the load is counted (R87). -/
def State.settleRunsOut (s : State) : State :=
  match s.tip.stage with
  | .settling load => if s.tip.settleTimer.running then s.countLoad load else s
  | .idle | .requested _ | .offered _ | .tipping _ => s

/-- Expiry of the offer timer (R81). -/
def execOfferTimerExpiry (s : State) : Result := event State.offerRunsOut s

/-- Expiry of the settle timer (R87). -/
def execSettleTimerExpiry (s : State) : Result := event State.settleRunsOut s

end Sys2Proof.Machine
end

