-- ==== Sys2Proof/Machine/Dispatch.lean ====
section
/-! DEFINITION. One arm per command: a direct call of its meaning. -/

namespace Sys2Proof.Machine

/-- The effect of a command on everything but the queue. -/
def exec (i : Instr) (s : State) : Host.Outcome State Fault Refusal :=
  match i with
  | .tip cls moisture => Sys2Proof.Machine.execTip cls moisture s
  | .tipCancel => Sys2Proof.Machine.execTipCancel s
  | .breakWork => Sys2Proof.Machine.execBreakWork s
  | .breakRenew token => Sys2Proof.Machine.execBreakRenew token s
  | .breakStop => Sys2Proof.Machine.execBreakStop s
  | .draw gate mode target => Sys2Proof.Machine.execDraw gate mode target s
  | .drawRenew gate token => Sys2Proof.Machine.execDrawRenew gate token s
  | .drawStop gate => Sys2Proof.Machine.execDrawStop gate s
  | .gateReset gate => Sys2Proof.Machine.execGateReset gate s
  | .halt => Sys2Proof.Machine.execHalt s
  | .haltRelease => Sys2Proof.Machine.execHaltRelease s
  | .entry => Sys2Proof.Machine.execEntry s
  | .entryRelease => Sys2Proof.Machine.execEntryRelease s
  | .hangupClear => Sys2Proof.Machine.execHangupClear s
  | .seed depth => Sys2Proof.Machine.execSeed depth s
  | .status first => Sys2Proof.Machine.execStatus first s
  | .report kind => Sys2Proof.Machine.execReport kind s
  | .reportNext => Sys2Proof.Machine.execReportNext s
  | .events => Sys2Proof.Machine.execEvents s
  | .eventAck kinds => Sys2Proof.Machine.execEventAck kinds s
  | .eventEnable kinds => Sys2Proof.Machine.execEventEnable kinds s
  | .profileLoad offset bytes => Sys2Proof.Machine.execProfileLoad offset bytes s
  | .profileCommit => Sys2Proof.Machine.execProfileCommit s
  | .restart => Sys2Proof.Machine.execRestart s
  | .malformedMessage => Sys2Proof.Machine.execMalformedMessage s
  | .unknownRequest what => Sys2Proof.Machine.execUnknownRequest what s
  | .holdSetArrival f => Sys2Proof.Machine.execHoldSetArrival f s
  | .holdLiftArrival f => Sys2Proof.Machine.execHoldLiftArrival f s
  | .offerArrival f => Sys2Proof.Machine.execOfferArrival f s
  | .withdrawArrival f => Sys2Proof.Machine.execWithdrawArrival f s
  | .tippedArrival f => Sys2Proof.Machine.execTippedArrival f s
  | .drawnArrival f => Sys2Proof.Machine.execDrawnArrival f s
  | .surfaceArrival f => Sys2Proof.Machine.execSurfaceArrival f s
  | .stateArrival f => Sys2Proof.Machine.execStateArrival f s
  | .undefinedKindArrival h kind => Sys2Proof.Machine.execUndefinedKindArrival h kind s
  | .receiveError e => Sys2Proof.Machine.execReceiveError e s
  | .transmitAttemptStart => Sys2Proof.Machine.execTransmitAttemptStart s
  | .arbitrationLoss => Sys2Proof.Machine.execArbitrationLoss s
  | .transmitError => Sys2Proof.Machine.execTransmitError s
  | .waitLimit => Sys2Proof.Machine.execWaitLimit s
  | .isolationRetryExpiry => Sys2Proof.Machine.execIsolationRetryExpiry s
  | .stopLoopOpens => Sys2Proof.Machine.execStopLoopOpens s
  | .stopLoopCloses => Sys2Proof.Machine.execStopLoopCloses s
  | .truckPresentActive => Sys2Proof.Machine.execTruckPresentActive s
  | .truckPresentInactive => Sys2Proof.Machine.execTruckPresentInactive s
  | .breakerParkActive => Sys2Proof.Machine.execBreakerParkActive s
  | .breakerParkInactive => Sys2Proof.Machine.execBreakerParkInactive s
  | .closedLimitActive g => Sys2Proof.Machine.execClosedLimitActive g s
  | .closedLimitInactive g => Sys2Proof.Machine.execClosedLimitInactive g s
  | .openLimitActive g => Sys2Proof.Machine.execOpenLimitActive g s
  | .openLimitInactive g => Sys2Proof.Machine.execOpenLimitInactive g s
  | .receiverReadyInactive g => Sys2Proof.Machine.execReceiverReadyInactive g s
  | .receiverReadyActive g => Sys2Proof.Machine.execReceiverReadyActive g s
  | .spareInputEdge input active => Sys2Proof.Machine.execSpareInputEdge input active s
  | .inputFirstConditioned input active => Sys2Proof.Machine.execInputFirstConditioned input active s
  | .inputFirstStateForced input raw => Sys2Proof.Machine.execInputFirstStateForced input raw s
  | .weigherPulse g => Sys2Proof.Machine.execWeigherPulse g s
  | .rangingRecord r => Sys2Proof.Machine.execRangingRecord r s
  | .offerTimerExpiry => Sys2Proof.Machine.execOfferTimerExpiry s
  | .settleTimerExpiry => Sys2Proof.Machine.execSettleTimerExpiry s
  | .breakerRenewalExpiry => Sys2Proof.Machine.execBreakerRenewalExpiry s
  | .returnTimerExpiry => Sys2Proof.Machine.execReturnTimerExpiry s
  | .warningTimerExpiry g => Sys2Proof.Machine.execWarningTimerExpiry g s
  | .strokeTimerExpiry g => Sys2Proof.Machine.execStrokeTimerExpiry g s
  | .drawRenewalExpiry g => Sys2Proof.Machine.execDrawRenewalExpiry g s
  | .starvationWindowExpiry g => Sys2Proof.Machine.execStarvationWindowExpiry g s
  | .wetRestExpiry => Sys2Proof.Machine.execWetRestExpiry s
  | .silenceTimerExpiry station => Sys2Proof.Machine.execSilenceTimerExpiry station s
  | .rollCallTimerExpiry => Sys2Proof.Machine.execRollCallTimerExpiry s
  | .stateTimerExpiry => Sys2Proof.Machine.execStateTimerExpiry s
  | .pacingTimerExpiry => Sys2Proof.Machine.execPacingTimerExpiry s
  | .storeWriteEnd took => Sys2Proof.Machine.execStoreWriteEnd took s
  | .coldRestart pins => Sys2Proof.Machine.execColdRestart pins s
  | .warmRestart pins => Sys2Proof.Machine.execWarmRestart pins s
  | .leaveStarting => Sys2Proof.Machine.execLeaveStarting s

end Sys2Proof.Machine
end

