-- ==== Sys2Proof/Machine/Timing.lean ====
section
/-! DEFINITION. The part's own clock: what is due on an empty queue, and the passing of one millisecond
(notes/assumptions/2.md). -/

namespace Sys2Proof.Machine

/-- The first command of a list whose condition holds. -/
def firstDue : List (Bool × Instr) → Option Instr
  | [] => none
  | (due, i) :: rest => if due then some i else firstDue rest

/-- A peer whose silence timer has run out. -/
def State.silentPeer (s : State) : Option PeerRecord := s.peers.records.find? (·.silence.due)

/-- An input that wants its first conditioned state and whose raw level, which no command has changed since the start
of conditioning, has been steady for its debounce time (R162, notes/assumptions/5.md). -/
def State.steadyInput (s : State) : Option InputNo :=
  if s.mode = .starting then
    (List.finRange 12).find? (fun i => (s.conditioned i).isNone && decide ((s.conditioning i).debounce ≤ s.time))
  else none

/-- An input that has found no steady level within the limit (R162). -/
def State.unsteadyInput (s : State) : Option InputNo :=
  if s.mode = .starting ∧ Config.conditioningLimit ≤ s.time then
    (List.finRange 12).find? (fun i => (s.conditioned i).isNone)
  else none

/-- Expiries of the sequencers' timers. -/
def State.sequencerDue (s : State) : List (Bool × Instr) :=
  [(s.tip.offerTimer.due, .offerTimerExpiry), (s.tip.settleTimer.due, .settleTimerExpiry),
   (s.breaker.renewal.due, .breakerRenewalExpiry), (s.breaker.returning.due, .returnTimerExpiry),
   (s.gates.a.warning.due, .warningTimerExpiry .a), (s.gates.b.warning.due, .warningTimerExpiry .b),
   (s.gates.a.stroke.due, .strokeTimerExpiry .a), (s.gates.b.stroke.due, .strokeTimerExpiry .b),
   (s.gates.a.renewal.due, .drawRenewalExpiry .a), (s.gates.b.renewal.due, .drawRenewalExpiry .b)]

/-- Expiries of the other timers. -/
def State.otherDue (s : State) : List (Bool × Instr) :=
  [(s.watch.windows.a.timer.due, .starvationWindowExpiry .a),
   (s.watch.windows.b.timer.due, .starvationWindowExpiry .b),
   (s.watch.wetRest.due, .wetRestExpiry),
   (s.line.retryTimer.due, .isolationRetryExpiry),
   (s.silentPeer.isSome, .silenceTimerExpiry (BitVec.ofNat 4 ((s.silentPeer.map (·.station)).getD 0))),
   (s.peers.rollCall.due, .rollCallTimerExpiry), (s.peers.stateTimer.due, .stateTimerExpiry),
   (s.field.pacing.due, .pacingTimerExpiry)]

/-- What the restart and STARTING have due: the WARM restart after its answer (R184), an input that takes the state of
its steady raw level or is forced (R162), the departure from STARTING (R178). -/
def State.startingDue (s : State) : List (Bool × Instr) :=
  [(s.port.restartPending, .warmRestart s.pins),
   (s.steadyInput.isSome,
    .inputFirstConditioned (s.steadyInput.getD 0) (s.rawActive (s.steadyInput.getD 0))),
   (s.unsteadyInput.isSome,
    .inputFirstStateForced (s.unsteadyInput.getD 0) s.field.inputs[s.unsteadyInput.getD 0].raw),
   (s.mode == .starting && s.blocksStarted, .leaveStarting)]

/-- The command that the part's own clock has due. -/
def State.dueCommand (s : State) : Option Instr := firstDue (s.startingDue ++ s.sequencerDue ++ s.otherDue)

/-! ## One millisecond -/

def Window.tick (w : Window) : Window := { w with timer := w.timer.tick }
def Watch.tick (w : Watch) : Watch :=
  { w with windows := ⟨w.windows.a.tick, w.windows.b.tick⟩, wetRest := w.wetRest.tick }
def Tip.tick (t : Tip) : Tip := { t with offerTimer := t.offerTimer.tick, settleTimer := t.settleTimer.tick }
def Breaker.tick (b : Breaker) : Breaker := { b with renewal := b.renewal.tick, returning := b.returning.tick }
def GateSeq.tick (q : GateSeq) : GateSeq :=
  { q with renewal := q.renewal.tick, warning := q.warning.tick, stroke := q.stroke.tick }
def Line.tick (l : Line) : Line := { l with retryTimer := l.retryTimer.tick }
def PeerRecord.tick (r : PeerRecord) : PeerRecord := { r with silence := r.silence.tick }
def PeerTable.tick (p : PeerTable) : PeerTable :=
  ⟨p.records.map PeerRecord.tick, p.rollCall.tick, p.stateTimer.tick⟩
def Field.tick (f : Field) : Field := { f with pacing := f.pacing.tick }

/-- One millisecond passes: station time, saturating, and every timer. -/
def State.tick (s : State) : State :=
  { s with time := add32 s.time 1, watch := s.watch.tick, tip := s.tip.tick, breaker := s.breaker.tick
           gates := ⟨s.gates.a.tick, s.gates.b.tick⟩, line := s.line.tick, peers := s.peers.tick
           field := s.field.tick }

end Sys2Proof.Machine
end

