-- ==== Sys2Proof/Machine/Step.lean ====
section
/-! DEFINITION. One step: the command at the front of the queue, or on an empty queue the part's own clock. -/

namespace Sys2Proof.Machine

/-- A step on an empty queue: the command that is due, otherwise one millisecond (notes/assumptions/2.md). -/
def idle (s : State) : Host.Outcome State Fault Refusal :=
  match s.dueCommand with
  | some i => exec i s
  | none => .next s.tick

/-- One step: the command at the front of the queue runs on the state with the queue's rest. -/
def step (s : State) : Host.Outcome State Fault Refusal :=
  match s.pending with
  | [] => idle s
  | i :: rest => exec i (s.setPending rest)

/-- The state with the command that a table word spells at the front of its queue; a word that spells none leaves
it as it is. -/
def State.withFetchWord (s : State) (nbits w : Nat) : State :=
  match decodeTableWord nbits w with
  | some i => s.setPending (i :: s.pending)
  | none => s

end Sys2Proof.Machine
end

