-- ==== Sys2Proof/Safety.lean ====
section
/-! DEFINITION. What counts as a safe state and as an accepted request, in the terms the statements use: the
invariants of the machine, and the acceptance rules of the chapters, each as one chain in the rule's own order. -/

namespace Sys2Proof.Machine

/-! ## Invariants -/

/-- The column stays a column of the pass: at most 32 segments of at least 1 dL each, none while UNSEEDED, and
never more than the pass capacity (R11, R17). -/
abbrev State.ColumnKept (s : State) : Prop :=
  s.column.segments.length ≤ 32 ∧ (∀ g ∈ s.column.segments, 1 ≤ g.volume) ∧
  (s.column.seeded = false → s.column.segments = []) ∧
  totalVolume s.column.segments ≤ s.prof.capacity

/-- The load buffer and the stored image are in canonical form and lie within 512 bytes (R182). -/
abbrev State.BuffersKept (s : State) : Prop :=
  (s.port.buffer.wf = true ∧ ∀ c ∈ s.port.buffer, c.1 < 512) ∧
  (s.store.image.wf = true ∧ ∀ c ∈ s.store.image, c.1 < 512)

/-- At most one reservation a station, each of a class 1 to 6 and of 1,000 to 600,000 dL (R89). -/
abbrev State.ReservationsKept (s : State) : Prop :=
  (s.reservations.map Reservation.station).Nodup ∧
  ∀ r ∈ s.reservations, 1 ≤ r.cls ∧ r.cls ≤ 6 ∧ 1000 ≤ r.volume ∧ r.volume ≤ 600000

/-- The transmit queue and the frames that wait to replace one hold no frame of the tip sequencer, and no tip
is in hand. -/
abbrev State.NoTipTraffic (s : State) : Prop :=
  s.tip.stage = .idle ∧
  (∀ q ∈ s.line.queue, q.frame.kind ≠ .offer ∧ q.frame.kind ≠ .withdraw ∧ q.frame.kind ≠ .tipped) ∧
  (∀ f ∈ s.line.waiting, f.kind ≠ .offer ∧ f.kind ≠ .withdraw ∧ f.kind ≠ .tipped)

/-- At most eight frames, at most one on the wire, at most one of each coalesced kind (R132 to R134); and at a DRAW
station no frame of the tip sequencer, which a TIP station alone has (R75). -/
abbrev State.QueueKept (s : State) : Prop :=
  (s.straps.role = .draw → s.NoTipTraffic) ∧
  s.line.queue.length ≤ 8 ∧ (s.line.queue.filter (·.onWire)).length ≤ 1 ∧
  (s.line.queue.filter (QueuedFrame.hasKind .state)).length ≤ 1 ∧
  (s.line.queue.filter (QueuedFrame.hasKind .drawn)).length ≤ 1 ∧
  (s.line.queue.filter (QueuedFrame.hasKind .surface)).length ≤ 1

/-- In STARTING nothing has begun: no hold, no reservation, no frame, no tip, no work, no draw (R71, R75, R89, R94,
R105, R140); and the restart HALT will bear RESTART (R71). -/
abbrev State.AtRest (s : State) : Prop :=
  s.restartCauses.restart = true ∧
  (s.mode = .starting →
    s.holds = [] ∧ s.reservations = [] ∧ s.line.state = .offline ∧ s.line.queue = [] ∧ s.line.waiting = [] ∧
    s.tip.stage = .idle ∧ s.workToken = none ∧
    s.gates.a.state.inHand = false ∧ s.gates.b.state.inHand = false)

/-- A HALT entry has a cause; another entry needs none (R56). -/
def HoldBody.hasCause : HoldBody → Bool
  | .halt c => !c.isEmpty
  | .entry | .ranging .. | .starved _ => true

/-- At most one entry of each kind a holder, and no HALT without a cause (R56, R57). -/
abbrev State.HoldsKept (s : State) : Prop :=
  (s.holds.map (fun h => (h.holder, h.body.kind))).Nodup ∧ ∀ h ∈ s.holds, h.body.hasCause = true

/-- A hold that keeps trucks off this station's grizzly: any HALT, any HANGUP, or its own ENTRY (R73). -/
abbrev State.TipForbidden (s : State) : Prop :=
  ∃ h ∈ s.holds, h.body.kind = .halt ∨ h.body.kind = .hangup ∨ (h.holder = s.own ∧ h.body.kind = .entry)

/-- A hold that keeps the breaker from work: any HALT, or the own ENTRY (R73). -/
abbrev State.WorkForbidden (s : State) : Prop :=
  ∃ h ∈ s.holds, h.body.kind = .halt ∨ (h.holder = s.own ∧ h.body.kind = .entry)

/-- The tip asks for a permit, or has been given one. -/
def TipStage.isOpen : TipStage → Bool
  | .requested _ | .offered _ => true
  | .idle | .tipping _ | .settling _ => false

/-- The tip is REQUESTED or OFFERED. -/
abbrev State.TipOpen (s : State) : Prop := s.tip.stage.isOpen = true

/-- At a TIP station no permit stands or is asked for under a hold that forbids it or with the breaker out of
park, and the breaker does no work under a hold (R73, R84). -/
abbrev State.TipSafe (s : State) : Prop :=
  s.straps.role = .tip →
    (s.TipForbidden → ¬s.TipOpen) ∧ (s.TipOpen → s.breaker.state = .parked) ∧
    (s.WorkForbidden → s.workToken = none)

/-- At a DRAW station that has left STARTING, no gate draws while any hold of any holder stands (R74). -/
abbrev State.DrawSafe (s : State) : Prop :=
  s.straps.role = .draw → s.holds ≠ [] → s.gates.a.state.drawing = false ∧ s.gates.b.state.drawing = false

/-- The answer on the panel link, if there is one, has the length that its one length byte can tell (R187). -/
abbrev State.AnswerFits (s : State) : Prop := ∀ a ∈ s.port.answer, a.bytes.length ≤ 255

/-! ## Acceptance rules -/

/-- The port takes requests: it awaits no restart, and the mode is not STARTING (R171, R184). -/
abbrev State.TakesRequests (s : State) : Prop := s.port.restartPending = false ∧ s.mode ≠ .starting

/-- An entry of this kind, of any holder. -/
abbrev State.Holds (kind : HoldKind) (s : State) : Prop := ∃ h ∈ s.holds, h.body.kind = kind

/-- An own entry of this kind. -/
abbrev State.HoldsOwn (kind : HoldKind) (s : State) : Prop := ∃ h ∈ s.holds, h.holder = s.own ∧ h.body.kind = kind

/-- The mode is LISTENING or READY. -/
abbrev State.Live (s : State) : Prop := s.mode = .listening ∨ s.mode = .ready

/-- What R76 refuses a TIP with. -/
def tipRefusal (cls moisture : Byte) (s : State) : Option AnswerBody :=
  if s.straps.role ≠ .tip then some (.refused .wrongRole)
  else if ¬(1 ≤ cls.toNat ∧ cls.toNat ≤ 6 ∧ 1 ≤ moisture.toNat ∧ moisture.toNat ≤ 4) then
    some (.refused .badRequest)
  else if s.mode ≠ .ready then some (.refused .notReady)
  else if s.Holds .halt then some (.refused .halted)
  else if s.HoldsOwn .entry then some (.refused .entryHeld)
  else if s.Holds .hangup then some (.refused .hangupHeld)
  else if s.column.seeded = false then some (.refused .modelUnseeded)
  else if s.line.state ≠ .active then some (.refused .isolated)
  else if s.tip.stage ≠ .idle ∨ ∃ q ∈ s.line.queue, q.frame.kind = .offer then some .busy
  else if s.breaker.state ≠ .parked then some (.refused .breakerOut)
  else if roomBelow s.prof.bands (s.prof.limitDepth s.own) s.columnVolume (reservedVolume s.reservations)
      < s.prof.classVolume cls.toNat then some (.refused .noRoom)
  else none

/-- What R80 refuses a TIP-CANCEL with. -/
def tipCancelRefusal (s : State) : Option AnswerBody :=
  if s.straps.role ≠ .tip then some (.refused .wrongRole)
  else if ¬s.Live then some (.refused .notReady)
  else match s.tip.stage with
    | .requested _ | .offered _ => none
    | .tipping _ | .settling _ => some (.refused .tipActive)
    | .idle => some (.refused .notActive)

/-- What R96 refuses a BREAK with. -/
def breakRefusal (s : State) : Option AnswerBody :=
  if s.straps.role ≠ .tip then some (.refused .wrongRole)
  else if s.mode ≠ .ready then some (.refused .notReady)
  else if s.Holds .halt then some (.refused .halted)
  else if s.HoldsOwn .entry then some (.refused .entryHeld)
  else match s.tip.stage with
    | .tipping _ => some (.refused .tipActive)
    | .idle | .requested _ | .offered _ | .settling _ =>
      match s.breaker.state with
      | .fault _ => some (.refused .breakerOut)
      | .working _ | .returning => some .busy
      | .parked => none

/-- What R98 refuses a BREAK-RENEW with. -/
def breakRenewRefusal (token : Byte) (s : State) : Option AnswerBody :=
  if s.straps.role ≠ .tip then some (.refused .wrongRole)
  else if 1 < token.toNat then some (.refused .badRequest)
  else match s.breaker.state with
    | .working last => if decide (token.toNat = 1) = last then some (.refused .staleToken) else none
    | .parked | .returning | .fault _ => some (.refused .notActive)

/-- What R99 refuses a BREAK-STOP with. -/
def breakStopRefusal (s : State) : Option AnswerBody :=
  if s.straps.role ≠ .tip then some (.refused .wrongRole)
  else match s.breaker.state with
    | .working _ => none
    | .parked | .returning | .fault _ => some (.refused .notActive)

/-- The byte names gate A or B. -/
abbrev NamesGate (gate : Byte) : Prop := gate.toNat = 1 ∨ gate.toNat = 2

/-- The gate a byte names: 2 is B. -/
def gateNamed (gate : Byte) : Gate := if gate.toNat = 2 then .b else .a

/-- What R107 refuses a DRAW with. -/
def drawRefusal (gate mode : Byte) (target : Option Word16) (s : State) : Option AnswerBody :=
  let q := s.gate (gateNamed gate)
  if s.straps.role ≠ .draw then some (.refused .wrongRole)
  else if ¬(NamesGate gate ∧ (mode.toNat = 1 ∨ (mode.toNat = 2 ∧ target ≠ none))) then some (.refused .badRequest)
  else if s.mode ≠ .ready then some (.refused .notReady)
  else if s.Holds .halt then some (.refused .halted)
  else if s.Holds .entry then some (.refused .entryHeld)
  else if s.Holds .hangup then some (.refused .hangupHeld)
  else if s.column.seeded = false then some (.refused .modelUnseeded)
  else if s.line.state ≠ .active then some (.refused .isolated)
  else if ∃ r ∈ s.peers.records, r.role = some .tip ∧ r.presence ≠ .present then some (.refused .peerSilent)
  else if q.state.isFault = true then some (.refused .gateFault)
  else if q.state ≠ .closed then some .busy
  else if s.active (readyInput (gateNamed gate)) = false then some (.refused .receiverNotReady)
  else if s.columnVolume ≤ s.prof.cushion then some (.refused .noCushion)
  else if s.watch.wet = .refused then some (.refused .wetColumn)
  else if s.watch.wetRest.running = true ∧ s.watch.wet ≠ .clear then some (.refused .wetRest)
  else none

/-- A draw is in WARNING, OPENING or OPEN. -/
abbrev GateSeq.Drawing (q : GateSeq) : Prop := q.state = .warning ∨ q.state = .opening ∨ q.state = .opened

/-- What R118 refuses a DRAW-RENEW with. -/
def drawRenewRefusal (gate token : Byte) (s : State) : Option AnswerBody :=
  let q := s.gate (gateNamed gate)
  if s.straps.role ≠ .draw then some (.refused .wrongRole)
  else if ¬(NamesGate gate ∧ token.toNat ≤ 1) then some (.refused .badRequest)
  else if ¬(q.Drawing ∧ q.mode = some .held) then some (.refused .notActive)
  else if q.token = some (decide (token.toNat = 1)) then some (.refused .staleToken)
  else none

/-- What R117 refuses a DRAW-STOP with. -/
def drawStopRefusal (gate : Byte) (s : State) : Option AnswerBody :=
  if s.straps.role ≠ .draw then some (.refused .wrongRole)
  else if ¬NamesGate gate then some (.refused .badRequest)
  else if ¬(s.gate (gateNamed gate)).Drawing then some (.refused .notActive)
  else none

/-- A gate is proven closed (R62). -/
abbrev State.ProvenClosed (g : Gate) (s : State) : Prop :=
  s.active (closedLimitInput g) = true ∧ s.active (openLimitInput g) = false

/-- What R116 refuses a GATE-RESET with. -/
def gateResetRefusal (gate : Byte) (s : State) : Option AnswerBody :=
  let q := s.gate (gateNamed gate)
  if s.straps.role ≠ .draw then some (.refused .wrongRole)
  else if ¬NamesGate gate then some (.refused .badRequest)
  else if ¬s.Live then some (.refused .notReady)
  else if q.state = .warning ∨ q.state = .opening ∨ q.state = .closing then some .busy
  else if q.state.isFault = false then some (.refused .notActive)
  else if ¬s.ProvenClosed (gateNamed gate) then some (.refused .gateFault)
  else none

/-- The causes a HALT-RELEASE takes from the own HALT: all that R64's table lets it take. -/
def releasedCauses (s : State) : Causes :=
  { operator := s.ownCauses.operator, restart := s.ownCauses.restart
    stopLoop := s.ownCauses.stopLoop && s.active stopLoopInput
    gateFault := s.ownCauses.gateFault &&
      decide (s.ProvenClosed .a ∧ s.ProvenClosed .b ∧ s.gates.a.state.isFault = false ∧
        s.gates.b.state.isFault = false)
    duplicate := false }

/-- The causes that stand after it. -/
def remainingAfterRelease (s : State) : Causes := s.ownCauses.minus (releasedCauses s)

/-- What R64 refuses a HALT-RELEASE with. -/
def haltReleaseRefusal (s : State) : Option AnswerBody :=
  if ¬s.Live then some (.refused .notReady)
  else if ¬s.HoldsOwn .halt then some (.refused .notHeld)
  else if releasedCauses s = Causes.none then some (.refusedCauses s.ownCauses)
  else none

/-- What R50 and R65 refuse the release of an own ENTRY or HANGUP with. -/
def releaseRefusal (kind : HoldKind) (s : State) : Option AnswerBody :=
  if ¬s.Live then some (.refused .notReady)
  else if ¬s.HoldsOwn kind then some (.refused .notHeld)
  else none

/-- What the requests that LISTENING and READY alone take are refused with. -/
def liveRefusal (s : State) : Option AnswerBody := if ¬s.Live then some (.refused .notReady) else none

/-- What R182 refuses a PROFILE-LOAD with. -/
def profileLoadRefusal (offset : Word16) (bytes : List Byte) (s : State) : Option AnswerBody :=
  if s.port.window = false then some (.refused .windowClosed)
  else if 512 < offset.toNat + bytes.length then some (.refused .badRequest)
  else if s.store.write = .writing then some .busy
  else none

/-- What R183 refuses a PROFILE-COMMIT with. -/
def profileCommitRefusal (s : State) : Option AnswerBody :=
  if s.port.window = false then some (.refused .windowClosed)
  else if s.store.write = .writing then some .busy
  else (imageFailure s.port.buffer false s.straps).map AnswerBody.refusedProfile

/-- The answer to a request with this code: the refusal with no other effect, or the acceptance on the state its
effect leaves (R171). -/
def answerWith (code : Nat) (refusal : Option AnswerBody) (body : AnswerBody) (effect s : State) : State :=
  match refusal with
  | some r => { s with port := { s.port with answer := some ⟨code, r⟩ } }
  | none => { effect with port := { effect.port with answer := some ⟨code, body⟩ } }

/-! ## The profile image, byte by byte (12.3) -/

/-- A number of one, two or four bytes in the image. -/
def byteAt (m : Memory) (a : Nat) : Nat := (m.read a).toNat
def twoAt (m : Memory) (a : Nat) : Nat := 256 * byteAt m a + byteAt m (a + 1)
def fourAt (m : Memory) (a : Nat) : Nat := 65536 * twoAt m a + twoAt m (a + 2)
def bytesAt (m : Memory) (a n : Nat) : List Byte := (List.range n).map (fun i => m.read (a + i))

/-- The nearest value of a range. -/
def nearest (low high n : Nat) : Nat := if n < low then low else if high < n then high else n

/-- The bands of the image, in the slots that its band count gives (at most eight). -/
def bandsAt (m : Memory) : List Band :=
  (List.range (min (byteAt m 2) 8)).map (fun i => ⟨twoAt m (8 + 4 * i), twoAt m (10 + 4 * i)⟩)

/-- D_c and the pass capacity of the image (R1, R3). -/
def chuteAt (m : Memory) : Nat := ((bandsAt m).map Band.height).sum
def capacityAt (m : Memory) : Nat := ((bandsAt m).map (fun b => b.area * b.height)).sum

/-- Where station entry `i` begins, and where the pass values begin. -/
def stationAt (i : Nat) : Nat := 42 + 33 * i
def passAt (m : Memory) : Nat := stationAt (byteAt m 3)

/-- Check 1 of R180 fails; that a length below 4 fails it is the model's reading (notes/assumptions/10.md). -/
abbrev StoreFails (torn : Bool) (m : Memory) : Prop :=
  torn = true ∨ 512 < twoAt m 0 ∨ twoAt m 0 < 4 ∨
  (crc32 (bytesAt m 0 (twoAt m 0 - 4))).toNat ≠ fourAt m (twoAt m 0 - 4)

/-- Check 2 fails: a condition of R2. -/
abbrev GeometryFails (m : Memory) : Prop :=
  byteAt m 2 = 0 ∨ 8 < byteAt m 2 ∨ (∃ b ∈ bandsAt m, b.height = 0) ∨
  (∃ b ∈ bandsAt m, b.area = 0 ∨ 4000 < b.area) ∨ 65535 < chuteAt m ∨
  twoAt m 40 < 800 ∨ 3000 < twoAt m 40

/-- Check 3 fails: the station table (R180), with the length and the role codes of R189. -/
abbrev StationTableFails (straps : Straps) (m : Memory) : Prop :=
  let n := byteAt m 3
  let role (i : Nat) : Nat := byteAt m (stationAt i + 1)
  let number (i : Nat) : Nat := byteAt m (stationAt i)
  n = 0 ∨ 8 < n ∨ twoAt m 0 ≠ 113 + 33 * n ∨
  (∃ i, i < n ∧ (number i < 1 ∨ 8 < number i)) ∨
  (∃ j, j < n ∧ ∃ i, i < j ∧ number i = number j) ∨
  (∃ i, i < n ∧ role i ≠ 1 ∧ role i ≠ 2) ∨
  (∀ i, i < n → role i ≠ 2) ∨ (∃ j, j < n ∧ ∃ i, i < j ∧ role i = 2 ∧ role j = 2) ∨
  (∀ i, i < n → role i ≠ 1) ∨
  ¬∃ i, i < n ∧ number i = straps.station ∧ role i = (if straps.role = .tip then 1 else 2)

/-- Check 4 fails: a limit depth, with the headroom clamped to 2,000 cm, is not above the chute lip (R2, R180). -/
abbrev LimitDepthFails (m : Memory) : Prop :=
  ∃ i, i < byteAt m 3 ∧ byteAt m (stationAt i + 1) = 1 ∧
    chuteAt m ≤ twoAt m (stationAt i + 2) + nearest 0 2000 (twoAt m (passAt m + 60))

/-- Check 5 fails: the thresholds, each clamped first (R180). -/
abbrev ThresholdsFail (m : Memory) : Prop :=
  nearest 100 2000 (twoAt m (passAt m + 64)) ≤ nearest 10 500 (twoAt m (passAt m + 62))

/-- The values of the image that have a range: value, lowest, highest (12.3 and the chapters' ranges). -/
def rangedValues (m : Memory) : List (Nat × Nat × Nat) :=
  let p := passAt m
  ((List.range (byteAt m 3)).flatMap (fun i =>
    [(byteAt m (stationAt i + 4), 0, 1), (twoAt m (stationAt i + 7), 1, 60000)] ++
    (List.range 12).map (fun k => (byteAt m (stationAt i + 10 + 2 * k), 0, 250)))) ++
  (List.range 6).map (fun k => (fourAt m (p + 4 * k), 1000, 600000)) ++
  [(twoAt m (p + 24), 30, 600), (twoAt m (p + 26), 2, 60), (twoAt m (p + 28), 200, 2000),
   (twoAt m (p + 30), 0, 10), (twoAt m (p + 32), 2, 60), (twoAt m (p + 34), 10, 300),
   (twoAt m (p + 36), 30, 1800), (twoAt m (p + 38), 5, 120), (twoAt m (p + 40), 1, 60),
   (twoAt m (p + 42), 250, 5000), (twoAt m (p + 44), 1000, 60000), (twoAt m (p + 46), 100, 10000),
   (twoAt m (p + 48), 1, 1000), (twoAt m (p + 50), 0, 10000), (fourAt m (p + 52), 0, capacityAt m),
   (fourAt m (p + 56), 0, capacityAt m), (twoAt m (p + 60), 0, 2000), (twoAt m (p + 62), 10, 500),
   (twoAt m (p + 64), 100, 2000), (byteAt m (p + 66), 1, 15)]

/-- The profile of an image, value by value, each at the nearest limit of its range (R180, 12.3). -/
def profileAt (m : Memory) : Profile :=
  let p := passAt m
  { issue := fourAt m 4
    bands := bandsAt m
    density := twoAt m 40
    stations := (List.range (byteAt m 3)).map (fun i =>
      { number := byteAt m (stationAt i)
        role := if byteAt m (stationAt i + 1) = 2 then .draw else .tip
        brow := twoAt m (stationAt i + 2)
        sensor := decide (0 < byteAt m (stationAt i + 4))
        mountDepth := twoAt m (stationAt i + 5)
        maxRange := nearest 1 60000 (twoAt m (stationAt i + 7))
        inputs := (List.range 12).map (fun k =>
          ⟨decide (byteAt m (stationAt i + 9 + 2 * k) = 1), nearest 0 250 (byteAt m (stationAt i + 10 + 2 * k))⟩) })
    classVolumes := (List.range 6).map (fun k => nearest 1000 600000 (fourAt m (p + 4 * k)))
    offerTimeout := nearest 30 600 (twoAt m (p + 24))
    settleTime := nearest 2 60 (twoAt m (p + 26))
    renewalWindow := nearest 200 2000 (twoAt m (p + 28))
    warningTime := nearest 0 10 (twoAt m (p + 30))
    strokeLimit := nearest 2 60 (twoAt m (p + 32))
    returnLimit := nearest 10 300 (twoAt m (p + 34))
    wetRest := nearest 30 1800 (twoAt m (p + 36))
    starvationWindow := nearest 5 120 (twoAt m (p + 38))
    surfaceInterval := nearest 1 60 (twoAt m (p + 40))
    statePeriod := nearest 250 5000 (twoAt m (p + 42))
    wetDrawLimit := nearest 1000 60000 (twoAt m (p + 44))
    reportQuantum := nearest 100 10000 (twoAt m (p + 46))
    weigherQuantum := nearest 1 1000 (twoAt m (p + 48))
    starvationThreshold := nearest 0 10000 (twoAt m (p + 50))
    cushion := nearest 0 (capacityAt m) (fourAt m (p + 52))
    drawZone := nearest 0 (capacityAt m) (fourAt m (p + 56))
    headroom := nearest 0 2000 (twoAt m (p + 60))
    tTol := nearest 10 500 (twoAt m (p + 62))
    tHang := nearest 100 2000 (twoAt m (p + 64))
    qMin := nearest 1 15 (byteAt m (p + 66))
    digest := (crc16 ([m.read 2] ++ bytesAt m 8 (4 * min (byteAt m 2) 8) ++ bytesAt m 40 2 ++ [m.read 3] ++
      bytesAt m 42 (33 * byteAt m 3))).toNat }

/-! ## Effects, as the rules tell them -/

/-- An edge of an input can arise: its conditioned state is the other one (R161, R162). -/
abbrev State.EdgeTo (i : InputNo) (active : Bool) (s : State) : Prop := s.conditioned i = some (!active)

/-- A tip over and done with: IDLE, both timers stopped, the outcome recorded, TIP-OUTCOME marked (R78, R79, R87). -/
def tipOver (o : Outcome) (load : Load) (s : State) : State :=
  State.mark .tipOutcome
    { s with tip := { s.tip with stage := .idle, offerTimer := ⟨false, 0⟩, settleTimer := ⟨false, 0⟩,
                                 lastOutcome := some ⟨o, load, s.time⟩ } }

/-- An accepted TIP: REQUESTED, and the OFFER handed over (R77). -/
def tipTaken (cls moisture : Byte) (s : State) : State :=
  State.handOver (.offer cls.toNat (s.prof.classVolume cls.toNat) (moistureRead moisture))
    { s with tip := { s.tip with stage := .requested ⟨cls.toNat, s.prof.classVolume cls.toNat, moistureRead moisture, false, false, false⟩ } }

/-- A load counted: its volume in the counter, the TIPPED frame handed over, the tip over (R87). -/
def loadCounted (load : Load) (s : State) : State :=
  let total := min (s.tip.cumulative + load.volume) 4294967295
  State.handOver (.tipped load s.store.generation total)
    (tipOver .tipped load { s with tip := { s.tip with cumulative := total } })

/-- The truck on the grizzly with this load, oversize where the breaker is out (R82, R103). -/
def truckOn (load : Load) (s : State) : State :=
  { s with tip := { s.tip with
      stage := .tipping (if s.breaker.state = .parked then load else { load with oversize := true })
      offerTimer := ⟨false, 0⟩, settleTimer := ⟨false, 0⟩ } }

/-- The load of a truck that came without asking (R82). -/
def strangeLoad (s : State) : Load := ⟨6, s.prof.classVolume 6, .unknown, false, true, true⟩

/-- The breaker in another state, its timers stopped, BREAKER-CHANGE marked (R99 to R104). -/
def breakerTo (b : BreakerState) (s : State) : State :=
  State.mark .breakerChange
    { s with breaker := { s.breaker with state := b, renewal := ⟨false, 0⟩, returning := ⟨false, 0⟩ } }

/-- The breaker home in park; a load that settles begins its settle time (R86, R100, R101, R103). -/
def breakerHome (s : State) : State :=
  let t := breakerTo .parked s
  match t.tip.stage with
  | .settling _ => { t with tip := { t.tip with settleTimer := ⟨true, s.prof.settleTime * 1000⟩ } }
  | .idle | .requested _ | .offered _ | .tipping _ => t

/-- What the tip sequencer does as the breaker leaves PARKED (R84, R86, R103). -/
def breakerOutAtTip (s : State) : State :=
  match s.tip.stage with
  | .idle => s
  | .requested _ | .offered _ => s.withdrawTip .breaker
  | .tipping load => { s with tip := { s.tip with stage := .tipping { load with oversize := true } } }
  | .settling load =>
    { s with tip := { s.tip with stage := .settling { load with oversize := true }
                                 settleTimer := ⟨false, s.prof.settleTime * 1000⟩ } }

/-- Work ended with a cause: home where the park input is active, otherwise RETURNING with its limit (R99, R100). -/
def workOver (cause : WorkEnd) (s : State) : State :=
  let t := { s with breaker := { s.breaker with lastEnd := some (cause, s.time) } }
  if s.active parkInput = true then breakerHome t
  else
    let u := breakerTo .returning t
    { u with breaker := { u.breaker with returning := ⟨true, s.prof.returnLimit * 1000⟩ } }

/-- The draw mode asked for, its target in range, and within the wet draw limit where the column is RESTRICTED (R52,
R108). -/
def drawModeTaken (mode : Byte) (target : Option Word16) (s : State) : DrawMode :=
  if mode.toNat = 1 then .held
  else
    let t := max 100 (min ((target.map BitVec.toNat).getD 0) 60000)
    .batch (if s.watch.wet = .restricted then min t s.prof.wetDrawLimit else t)

/-- The gate's sequencer as a DRAW leaves it in WARNING (R108). -/
def drawBegun (mode : Byte) (target : Option Word16) (s : State) (q : GateSeq) : GateSeq :=
  { q with
    state := .warning
    mode := some (drawModeTaken mode target s)
    wetCap := if s.watch.wet = .restricted then some s.prof.wetDrawLimit else none
    mass := 0
    token := if mode.toNat = 1 then some false else none
    renewal := if mode.toNat = 1 then ⟨true, s.prof.renewalWindow⟩ else ⟨false, 0⟩
    warning := ⟨true, s.prof.warningTime * 1000⟩
    record := some ⟨drawModeTaken mode target s, 0, none, decide (s.watch.wet = .restricted), none⟩ }

/-- The gate's sequencer on its way open (R109). -/
def openingBegun (s : State) (q : GateSeq) : GateSeq :=
  { q with state := .opening, warning := ⟨false, 0⟩, stroke := ⟨true, s.prof.strokeLimit * 1000⟩
           dribble := ⟨false, false⟩ }

/-- The gate's sequencer as a DRAW leaves it: in WARNING, or on its way open with no warning time (R108, R109). -/
def drawTaken (mode : Byte) (target : Option Word16) (s : State) (q : GateSeq) : GateSeq :=
  if s.prof.warningTime = 0 then openingBegun s (drawBegun mode target s q) else drawBegun mode target s q

/-- The state with one gate's sequencer changed. -/
def State.withGate (g : Gate) (f : GateSeq → GateSeq) (s : State) : State :=
  { s with gates := s.gates.modify g f }

/-! ### The column's neighbours -/

/-- The wet status of the column as it stands: CLEAR with no wet ore in the zone, REFUSED from half the zone on (R14,
R15). -/
def wetStatusNow (s : State) : WetStatus :=
  let zone := min s.prof.drawZone s.columnVolume
  let wet := wetWithin s.column.segments zone
  if s.column.seeded = false ∨ wet = 0 then .clear else if 2 * wet < zone then .restricted else .refused

/-- The wet status evaluated: WET-CHANGE where it differs from the one in force (R51). -/
def wetEvaluated (s : State) : State :=
  if s.watch.wet = wetStatusNow s then s
  else State.mark .wetChange { s with watch := { s.watch with wet := wetStatusNow s } }

/-- A gate's sequencer told of a new wet status: a draw newly RESTRICTED takes the wet cap and is wet-restricted, a
draw under REFUSED is wet-restricted (R53). -/
def wetToldToGate (status : WetStatus) (limit : Nat) (q : GateSeq) : GateSeq :=
  let marked := q.record.map (fun r => { r with wetRestricted := true })
  if (q.state = .warning ∨ q.state = .opening ∨ q.state = .opened) ∧ status = .refused then
    { q with record := marked }
  else if (q.state = .warning ∨ q.state = .opening ∨ q.state = .opened) ∧ status = .restricted ∧ q.wetCap = none then
    { q with record := marked, wetCap := some limit }
  else q

/-- Both gates of a DRAW station told of the wet status in force where it was another in `before` (R53). -/
def wetTold (before s : State) : State :=
  if s.straps.role = .draw ∧ before.watch.wet ≠ s.watch.wet then
    { s with gates := ⟨wetToldToGate s.watch.wet s.prof.wetDrawLimit s.gates.a,
                       wetToldToGate s.watch.wet s.prof.wetDrawLimit s.gates.b⟩ }
  else s

/-- A change of the column taken whole: where the list or the model state is another, the wet status is evaluated (R19,
R51). -/
def columnTaken (c : Column) (s : State) : State :=
  if c.segments = s.column.segments ∧ c.seeded = s.column.seeded then { s with column := c }
  else wetEvaluated { s with column := c }

/-- A MODEL event with its reason (R20). -/
def modelTold (r : ModelReason) (s : State) : State :=
  State.mark .model { s with column := { s.column with lastReason := some r } }

/-- A layer of no known source, estimated; none of 0 dL (R17, R31, R36, R37). -/
def looseLayer (volume : Nat) (moisture : Moisture) : List Segment :=
  if volume = 0 then [] else [⟨volume, moisture, none, false, true, false⟩]

/-- A seed with these layers: the wet status evaluated and MODEL marked with reason SEEDED (R35, R51). -/
def seedTaken (layers : List Segment) (s : State) : State :=
  modelTold .seeded (wetEvaluated { s with column := { s.column with seeded := true, segments := layers } })

/-- A seed from a peer's STATE: its wet volume WET at the bottom, the rest DAMP above, clamped to the pass capacity
(R36). -/
def seededFrom (p : StatePayload) (s : State) : State :=
  let volume := min p.columnVolume.toNat (passCapacity s.prof.bands)
  let wet := min p.wetVolume.toNat volume
  seedTaken (looseLayer wet .wet ++ looseLayer (volume - wet) .damp) s

/-- A seed from a reading: its depth clamped to D_c, one DAMP layer of the volume below it (R37). -/
def seededAt (depth : Nat) (s : State) : State :=
  seedTaken (looseLayer (volumeBelow s.prof.bands (min depth (chuteDepth s.prof.bands))) .damp) s

/-- The layers of one change taken by a SEEDED model, its spill counted and told once; none by an UNSEEDED one (R20,
R23 to R26). -/
def layersTaken (layers : List Segment) (s : State) : State :=
  let joined := (Column.layers (passCapacity s.prof.bands) layers s.column).1
  let spill := (Column.layers (passCapacity s.prof.bands) layers s.column).2
  if s.column.seeded = false then s
  else if spill = 0 then columnTaken joined s
  else modelTold .overfull (columnTaken { joined with
    spillVolume := min (s.column.spillVolume + spill) 4294967295
    spillCount := min (s.column.spillCount + 1) 65535 } s)

/-- A draw increment taken by a SEEDED model: the volume off the bottom and the new remainder together, what the list
lacks counted as underrun and told (R9, R20, R27, R28). -/
def massDrawn (mass : Nat) (s : State) : State :=
  let n := mass * 10000 + s.column.remainder
  let c := { s.column with
    segments := takeVolume s.column.segments (n / s.prof.density), remainder := n % s.prof.density }
  if n / s.prof.density ≤ s.columnVolume then columnTaken c s
  else modelTold .underrun (columnTaken { c with
    underrunVolume := min (s.column.underrunVolume + (n / s.prof.density - s.columnVolume)) 4294967295
    underrunCount := min (s.column.underrunCount + 1) 65535 } s)

/-- The list moved to a target volume: less off the top; more on the top segment, which is estimated then, or one DAMP
layer on an empty list (R30, R31). -/
def movedTo (target : Nat) (segments : List Segment) : List Segment :=
  let volume := (segments.map Segment.volume).sum
  if target = volume then segments
  else if target < volume then takeTop segments (volume - target)
  else match segments.getLast? with
    | none => looseLayer target .damp
    | some top => segments.dropLast ++ [{ top with volume := top.volume + (target - volume), estimated := true }]

/-- A re-anchor to the volume below a reading; drift from T_tol on is counted and told (R13, R30 to R32). -/
def reanchoredAt (depth : Nat) (s : State) : State :=
  let t := columnTaken { s.column with
    segments := movedTo (volumeBelow s.prof.bands depth) s.column.segments } s
  if ((s.modelSurface : Int) - depth).natAbs < s.prof.tTol then t
  else modelTold .drift { t with column := { t.column with driftCount := min (t.column.driftCount + 1) 65535 } }

/-! ### Draws -/

/-- The other gate. -/
def otherGate : Gate → Gate
  | .a => .b
  | .b => .a

/-- A DRAWN frame formed where mass is yet unreported (R125). -/
def drawnReported (s : State) : State :=
  if s.drawn.reported < s.drawn.cumulative then
    State.handOver (.drawn s.store.generation s.drawn.cumulative s.gates.a.state.running s.gates.b.state.running
        s.drawn.dribble)
      { s with drawn := ⟨s.drawn.cumulative, s.drawn.cumulative, false⟩ }
  else s

/-- A draw completed: DRAW-END, the wet rest after a wet-restricted draw, and the DRAWN frame (R54, R112, R115). -/
def drawCompleted (wetRestricted : Bool) (s : State) : State :=
  drawnReported (State.mark .drawEnd
    (if wetRestricted = true then
      { s with watch := { s.watch with wetRest := ⟨true, s.prof.wetRest * 1000⟩ } }
    else s))

/-- The record is marked wet-restricted. -/
def GateSeq.wetRestricted (q : GateSeq) : Bool := (q.record.map DrawRecord.wetRestricted).getD false

/-- A sequencer whose draw ended with a cause and whose gate stands closed (R111, R112). -/
def closedAfter (cause : EndCause) (time : Nat) (q : GateSeq) : GateSeq :=
  { q with state := .closed, mode := none, wetCap := none, token := none, renewal := ⟨false, 0⟩
           warning := ⟨false, 0⟩, stroke := ⟨false, 0⟩, dribble := ⟨true, false⟩
           record := q.record.map (fun r => { r with endCause := some cause, outcome := some (true, time) }) }

/-- A sequencer whose draw ended with a cause and whose gate is on its way closed (R111). -/
def closingAfter (cause : EndCause) (strokeMs : Nat) (q : GateSeq) : GateSeq :=
  { q with state := .closing, token := none, renewal := ⟨false, 0⟩, stroke := ⟨true, strokeMs⟩
           record := q.record.map (fun r => { r with endCause := some cause }) }

/-- The starvation window of a gate that leaves OPEN stops with a count of 0 (R48). -/
def windowLeft (g : Gate) (s : State) : Watch :=
  if (s.gate g).state = .opened then
    { s.watch with windows := s.watch.windows.modify g (fun _ => ⟨⟨false, 0⟩, 0⟩) }
  else s.watch

/-- A draw in WARNING, OPENING or OPEN ended with a cause (R111, R112). -/
def drawEnded (cause : EndCause) (g : Gate) (s : State) : State :=
  if (s.gate g).state = .warning ∨ s.ProvenClosed g then
    drawCompleted (s.gate g).wetRestricted
      { s with gates := s.gates.modify g (closedAfter cause s.time), watch := windowLeft g s }
  else
    { s with gates := s.gates.modify g (closingAfter cause (s.prof.strokeLimit * 1000)), watch := windowLeft g s }

/-- A sequencer in FAULT: the timers stopped, the token absent, a new dribble period, the draw in hand completed with
FAULT (R115); the draw mode and wet cap of a draw that is over are gone (notes/assumptions/21.md). -/
def faulted (cause : GateFault) (time : Nat) (q : GateSeq) : GateSeq :=
  { q with state := .fault cause, mode := none, wetCap := none, token := none, renewal := ⟨false, 0⟩
           warning := ⟨false, 0⟩, stroke := ⟨false, 0⟩, dribble := ⟨true, false⟩
           record := if q.state.inHand = true then
               q.record.map (fun r => { r with outcome := some (false, time) })
             else q.record }

/-- A gate's entry into FAULT (R115). -/
def gateFaulted (cause : GateFault) (g : Gate) (s : State) : State :=
  let t := State.mark .fault
    { s with gates := s.gates.modify g (faulted cause s.time), watch := windowLeft g s }
  let u := if (s.gate g).state.inHand = true then drawCompleted (s.gate g).wetRestricted t else t
  if s.ProvenClosed g then u else u.addOwnCause { Causes.none with gateFault := true }

/-- The end cause that mass this draw meets in OPEN: the target of a BATCH draw, then the wet cap (R110, R123). -/
def massMet (q : GateSeq) : Option EndCause :=
  let target := match q.mode with
    | some (.batch t) => decide (t ≤ q.mass)
    | some .held | none => false
  let cap := match q.wetCap with
    | some c => decide (c ≤ q.mass)
    | none => false
  if target = true then some .batchDone else if cap = true then some .wetLimit else none

/-- The gate entering OPEN, its starvation window starting (R110). -/
def openEntered (g : Gate) (s : State) : State :=
  { s with
    gates := s.gates.modify g (fun q => { q with state := .opened, stroke := ⟨false, 0⟩ })
    watch := { s.watch with windows :=
      s.watch.windows.modify g (fun _ => ⟨⟨true, s.prof.starvationWindow * 1000⟩, 0⟩) } }

/-- The gate's closing stroke done (R112). -/
def strokeDone (g : Gate) (s : State) : State :=
  drawCompleted (s.gate g).wetRestricted
    { s with gates := s.gates.modify g (fun q =>
        { q with state := .closed, mode := none, wetCap := none, warning := ⟨false, 0⟩, stroke := ⟨false, 0⟩
                 dribble := ⟨true, false⟩
                 record := q.record.map (fun r => { r with outcome := some (true, s.time) }) }) }

/-- A gate as the opening of the stop loop leaves it (the table of R122): a draw in hand is completed, CLOSED where the
gate is proven closed and FAULT where it is not. A draw that the opening ends in WARNING, OPENING or OPEN has the end
cause STOP-LOOP, but for the drift of a gate in WARNING; one in CLOSING keeps its own. That the opening also stops the
renewal timer and clears the token is the model's reading (notes/assumptions/42.md). -/
def gateLoopOpened (g : Gate) (s : State) : State :=
  let q := s.gate g
  let stopped (x : GateSeq) : GateSeq :=
    { x with token := none, renewal := ⟨false, 0⟩
             record := x.record.map (fun r => { r with endCause := some .stopLoop }) }
  if q.state.inHand = false then s
  else if s.ProvenClosed g then
    if q.state = .closing then strokeDone g s
    else drawCompleted q.wetRestricted
      { s with gates := s.gates.modify g (closedAfter .stopLoop s.time), watch := windowLeft g s }
  else drawCompleted q.wetRestricted (State.mark .fault
    { s with
      gates := s.gates.modify g (fun x =>
        if x.state = .warning then faulted .gateDrift s.time x
        else faulted .loopOpen s.time (if x.state = .closing then x else stopped x))
      watch := windowLeft g s })

/-- The stop loop opened at a DRAW station: both gates, then STOP-LOOP in the own HALT, then GATE-FAULT where a draw in
hand stood at a gate not proven closed (R61, R115, R122). Gate A before gate B, and this order of the HALT's causes, are
the model's choice (notes/assumptions/14.md). -/
def loopOpenedAtDraw (s : State) : State :=
  let t := (gateLoopOpened .b (gateLoopOpened .a s)).addOwnCause { Causes.none with stopLoop := true }
  if ∃ g ∈ [Gate.a, Gate.b], (s.gate g).state.inHand = true ∧ ¬s.ProvenClosed g then
    t.addOwnCause { Causes.none with gateFault := true }
  else t

/-! ### Holds -/

/-- The own HALT or HOLD frame of an own change is queued while the line is ACTIVE and the mode is not SAFE (R59). -/
def holdReported (holder : Nat) (f : Frame) (s : State) : State :=
  if holder = s.own ∧ s.line.state = .active ∧ s.mode ≠ .safe then s.handOver f else s

/-- Breaker work, if there is any, ended by a hold (R73, R99). -/
def workHeld (s : State) : State := if s.workToken = none then s else workOver .hold s

/-- The effects of an added or changed entry at the sequencers (R73, R74). -/
def holdFelt (holder : Nat) (kind : HoldKind) (s : State) : State :=
  match s.straps.role, kind with
  | .tip, .halt => workHeld (s.withdrawTip .hold)
  | .tip, .entry => if holder = s.own then workHeld (s.withdrawTip .hold) else s
  | .tip, .hangup => s.withdrawTip .hold
  | .draw, _ => (s.endDraw .hold .a).endDraw .hold .b

/-- The hold list changed by an entry: HOLD-CHANGE, the frame of an own change, the effects (R57, R59, R72). -/
def holdTaken (holder : Nat) (body : HoldBody) (list : List Hold) (s : State) : State :=
  holdFelt holder body.kind (holdReported holder (.holdSet body) (State.mark .holdChange { s with holds := list }))

/-- An entry gone from the list: HOLD-CHANGE and the frame of an own change; the sequencers are not told (R59, R67,
R72). -/
def holdGone (holder : Nat) (kind : HoldKind) (s : State) : State :=
  holdReported holder (.holdLift kind) (State.mark .holdChange
    { s with holds := s.holds.filter (fun h => !(h.holder == holder && h.body.kind == kind)) })

/-- The own HANGUP lifted: off the list with HOLD-CHANGE and its frame, the gap estimate gone, HANGUP marked (R47). -/
def hangupLifted (s : State) : State :=
  let t := holdGone s.own .hangup s
  State.mark .hangup { t with watch := { t.watch with gap := none } }

/-- A peer's entry of one kind made to match what its STATE lists of that kind (R68). -/
def holdMatched (holder : Nat) (kind : HoldKind) (listed : Option HoldBody) (s : State) : State :=
  match listed, s.holds.find? (fun h => h.holder == holder && h.body.kind == kind) with
  | none, none => s
  | none, some _ => holdGone holder kind s
  | some body, none => holdTaken holder body (s.holds ++ [⟨holder, s.time, body⟩]) s
  | some body, some h =>
    if h.body = body then s
    else holdTaken holder body
      (s.holds.map (fun h => if h.holder = holder ∧ h.body.kind = kind then { h with body := body } else h)) s

/-- The HALT a STATE lists: its causes, values beyond the five set aside, where one is left (R68, 12.1). -/
def haltListed (p : StatePayload) : Option HoldBody :=
  if p.haltCauses.toNat % 32 = 0 then none
  else some (.halt ⟨p.haltCauses.getLsbD 0, p.haltCauses.getLsbD 1, p.haltCauses.getLsbD 2, p.haltCauses.getLsbD 3,
    p.haltCauses.getLsbD 4⟩)

/-- The HANGUP a STATE lists: a source, with no field of the other source (R68, 12.1, notes/assumptions/37.md). -/
def hangupListed (p : StatePayload) : Option HoldBody :=
  match p.hangupSource.toNat, p.hangupGateB, p.gapVolume.toNat, p.gapSurface.toNat with
  | 1, false, _, surface => some (.ranging p.gapVolume.toInt surface)
  | 2, gateB, 0, 0 => some (.starved (if gateB = true then .b else .a))
  | _, _, _, _ => none

/-- A peer's entries made to match its STATE, HALT, ENTRY, HANGUP in order (R68). -/
def holdsMatched (holder : Nat) (p : StatePayload) (s : State) : State :=
  holdMatched holder .hangup (hangupListed p)
    (holdMatched holder .entry (if p.entryHeld = true then some .entry else none)
      (holdMatched holder .halt (haltListed p) s))

/-- The own HANGUP raised by a starvation window, unless it stands (R49). -/
def starvedRaised (g : Gate) (s : State) : State :=
  if s.HoldsOwn .hangup then s
  else State.mark .hangup (holdTaken s.own (.starved g) (s.holds ++ [⟨s.own, s.time, .starved g⟩]) s)

/-! ### The line -/

/-- A received frame at the line controller and the peer table: counted, its sequence and presence taken (R144, R147,
R148). -/
def peerHeard (h : Header) (s : State) : State := s.heard h.station.toNat h.seq.toNat

/-- A frame that the number test hands on: the line is not OFFLINE, the number is a peer's and not the own (R142). -/
abbrev State.HandedOn (h : Header) (s : State) : Prop :=
  s.line.state ≠ .offline ∧ h.station.toNat ≠ s.own ∧ ∃ r ∈ s.peers.records, r.station = h.station.toNat

/-- The own frame on the wire has arrived: it leaves the queue, the sequence advances, the discards in a row end, an
isolated line is ACTIVE again, and a waiting replacement joins (R131, R134, R137, R139, R143). -/
def ownArrived (s : State) : State :=
  let t : State := { s with line := { s.line with
    queue := s.line.queue.eraseP (·.onWire), wire := none, nextSeq := (s.line.nextSeq + 1) % 256, consecutive := 0,
    counters := { s.line.counters with sent := min (s.line.counters.sent + 1) 65535 } } }
  let u : State := if s.line.state = .isolated then
      State.mark .line { t with line := { t.line with state := .active, retryTimer := ⟨false, 0⟩, retryDue := false
                                                      lastReason := some .active } }
    else t
  u.settleWaiting

/-- The header of a frame received from another sender. -/
def receivedHeader : Instr → Option Header
  | .holdSetArrival (.received h _) | .holdLiftArrival (.received h _) | .offerArrival (.received h _)
  | .withdrawArrival (.received h _) | .tippedArrival (.received h _) | .drawnArrival (.received h _)
  | .surfaceArrival (.received h _) | .stateArrival (.received h _) | .undefinedKindArrival h _ => some h
  | _ => none

/-- A frame of a kind that its sender's role does not suit, or of no defined kind: taken by the peer table, and
counted (R132, R147). -/
def unsuited (h : Header) (s : State) : State :=
  let t := peerHeard h s
  { t with line := { t.line with counters := { t.line.counters with
      unknownKinds := min (t.line.counters.unknownKinds + 1) 65535 } } }

/-- A station's entry is out of the reservation list. -/
def reservationGone (station : Nat) (s : State) : State :=
  { s with reservations := s.reservations.filter (fun r => r.station != station) }

/-- A peer's entry made to match the open reservation of its STATE; one out of range is absent (R91). -/
def reservationMatched (station : Nat) (p : StatePayload) (s : State) : State :=
  let c := p.openClass.toNat
  let v := p.openVolume.toNat
  if 1 ≤ c ∧ c ≤ 6 ∧ 1000 ≤ v ∧ v ≤ 600000 then
    { s with reservations :=
        if ∃ r ∈ s.reservations, r.station = station then
          s.reservations.map (fun r => if r.station = station then { r with cls := c, volume := v } else r)
        else s.reservations ++ [⟨station, c, v, s.time⟩] }
  else reservationGone station s

/-- A counter of a peer taken against its baseline: the increase, and the baseline after it (R155 to R157). -/
def counterTaken (station generation counter : Nat) (s : State) : Nat × Baseline :=
  match (s.peers.records.find? (fun r => r.station == station)).bind PeerRecord.baseline with
  | none => (0, ⟨generation, counter⟩)
  | some b =>
    let base := if b.generation = generation then b.counter else 0
    if base < counter then (counter - base, ⟨generation, counter⟩) else (0, ⟨generation, base⟩)

/-- The state with a peer's baseline replaced. -/
def withBaseline (station : Nat) (b : Baseline) (s : State) : State :=
  { s with peers := { s.peers with
      records := s.peers.records.map (fun r => if r.station = station then { r with baseline := some b } else r) } }

/-- The layers that a peer's TIPPED brings: the missing volume, then the tip; none of a duplicate (R23, R156). -/
def layersOfTipped (station : Nat) (p : TippedPayload) (s : State) : List Segment :=
  let tip : Segment := ⟨p.volume.toNat, moistureRead p.moisture, some station, p.flags.getLsbD 0, p.flags.getLsbD 1,
    p.flags.getLsbD 2⟩
  let catchUp (v : Nat) : Segment := ⟨v, .unknown, some station, false, true, false⟩
  match (s.peers.records.find? (fun r => r.station == station)).bind PeerRecord.baseline with
  | none => [catchUp 0, tip]
  | some b =>
    let base := if b.generation = p.generation.toNat then b.counter else 0
    if p.cumulative.toNat ≤ base then []
    else if base ≤ p.cumulative.toNat - p.volume.toNat then
      [catchUp (p.cumulative.toNat - p.volume.toNat - base), tip]
    else [catchUp 0, tip]

/-- A transmit attempt of the first frame that `p` picks has failed while the line is ACTIVE or OFFLINE (R130,
R137). -/
def attemptFailed (p : QueuedFrame → Bool) (q : QueuedFrame) (s : State) : State :=
  let l := { s.line with wire := none, counters := { s.line.counters with
    transmitErrors := min (s.line.counters.transmitErrors + 1) 65535 } }
  let lost (t : State) : State :=
    if 3 ≤ t.line.consecutive ∧ t.line.state = .active then t.enterIsolated else t
  if q.attempts + 1 < 16 then
    State.settleWaiting { s with line := { l with
      queue := (modifyFirst p (fun x => { x with attempts := x.attempts + 1 }) s.line.queue).map
        (fun x => { x with onWire := false }) } }
  else
    (lost (State.frameLost q.frame { s with line := { l with
      queue := s.line.queue.eraseP p, consecutive := s.line.consecutive + 1,
      counters := { l.counters with discards := min (s.line.counters.discards + 1) 65535 } } })).settleWaiting

/-- The retry of an isolated line has failed: nothing is charged to the STATE, and the timer starts again (R139). -/
def retryFailed (s : State) : State :=
  State.settleWaiting { s with line := { s.line with
    queue := s.line.queue.map (fun x => { x with onWire := false }), wire := none,
    counters := { s.line.counters with transmitErrors := min (s.line.counters.transmitErrors + 1) 65535 },
    retryTimer := ⟨true, 10000⟩, retryDue := false } }

/-- The frame that an ACTIVE line sends next: of the best class, the oldest (R133). -/
abbrev State.NextToSend (before : List QueuedFrame) (q : QueuedFrame) (after : List QueuedFrame) (s : State) : Prop :=
  s.line.state = .active ∧ s.line.queue = before ++ q :: after ∧
  (∀ x ∈ s.line.queue, x.onWire = false ∧ q.frame.cls ≤ x.frame.cls) ∧ ∀ x ∈ before, q.frame.cls < x.frame.cls

/-- The STATE that an isolated line sends: its one attempt is due, and no frame is on the wire (R139). -/
abbrev State.RetryToSend (before : List QueuedFrame) (q : QueuedFrame) (after : List QueuedFrame) (s : State) : Prop :=
  s.line.state = .isolated ∧ s.line.retryDue = true ∧ s.line.queue = before ++ q :: after ∧
  (∀ x ∈ s.line.queue, x.onWire = false) ∧ q.frame.kind = .state ∧ ∀ x ∈ before, x.frame.kind ≠ .state

/-- The frame of an attempt: a STATE is formed as the station stands (R69, R153). -/
def frameFormed (f : Frame) (s : State) : Frame :=
  match f with
  | .state _ => .state (some s.statePayload)
  | other => other

/-- The attempt of `q` begun: on the wire with the own number and the next sequence (R128, R133, R143). -/
def attemptBegun (before : List QueuedFrame) (q : QueuedFrame) (after : List QueuedFrame) (s : State) : State :=
  { s with line := { s.line with
    queue := before ++ { q with frame := frameFormed q.frame s, started := true, onWire := true } :: after
    wire := some ((frameFormed q.frame s).bytes s.own s.line.nextSeq) } }

/-- What the station's own STATE carries (R69, R92, R154, 12.1). Whether one sent in SAFE shows the boom (R94) and the
gates (R105) or leaves them absent (R154) is a free value, and this holds for either (notes/assumptions/39.md). -/
abbrev State.OwnStateCarries (p : StatePayload) (s : State) : Prop :=
  (s.mode = .listening → p.mode = 1#4) ∧ (s.mode = .ready → p.mode = 2#4) ∧ (s.mode = .safe → p.mode = 3#4) ∧
  (s.line.state = .active → p.line = 1#4) ∧ (s.line.state = .isolated → p.line = 2#4) ∧
  haltListed p = (s.holds.find? (fun h => h.holder == s.own && h.body.kind == .halt)).map Hold.body ∧
  p.haltCauses.toNat < 32 ∧
  (p.entryHeld = true ↔ s.HoldsOwn .entry) ∧
  (∀ g, (s.holds.find? (fun h => h.holder == s.own && h.body.kind == .hangup)).map Hold.body = some (.starved g) →
    hangupListed p = some (.starved g)) ∧
  (∀ gap surface, (s.holds.find? (fun h => h.holder == s.own && h.body.kind == .hangup)).map Hold.body =
      some (.ranging gap surface) → -2147483648 ≤ gap → gap < 2147483648 → surface < 65536 →
    hangupListed p = some (.ranging gap surface)) ∧
  (¬s.HoldsOwn .hangup → p.hangupSource = 0#2 ∧ p.gapVolume = 0#32 ∧ p.gapSurface = 0#16 ∧ p.hangupGateB = false) ∧
  (s.mode = .safe ∨ (∀ r ∈ s.reservations, r.station ≠ s.own) → p.openClass = 0#8 ∧ p.openVolume = 0#32) ∧
  (∀ r, s.mode ≠ .safe → s.reservations.find? (fun r => r.station == s.own) = some r →
    p.openClass = BitVec.ofNat 8 r.cls ∧ p.openVolume = BitVec.ofNat 32 r.volume) ∧
  (s.straps.role = .tip →
    let boom : BitVec 4 := match s.breaker.state with
      | .parked => 1#4 | .working _ => 2#4 | .returning => 3#4 | .fault _ => 4#4
    (s.mode ≠ .safe → p.unitLow = boom ∧
      p.unitHigh = (match s.tip.stage with
        | .idle => 1#4 | .requested _ => 2#4 | .offered _ => 3#4 | .tipping _ => 4#4 | .settling _ => 5#4)) ∧
    (s.mode = .safe → p.unitHigh = 0#4 ∧ p.unitLow = if Config.safeStateShowsUnits then boom else 0#4)) ∧
  (s.straps.role = .draw →
    let nibble (q : GateSeq) : BitVec 4 := match q.state with
      | .closed => 1#4 | .warning => 2#4 | .opening => 3#4 | .opened => 4#4 | .closing => 5#4 | .fault _ => 6#4
    if s.mode = .safe ∧ Config.safeStateShowsUnits = false then p.unitHigh = 0#4 ∧ p.unitLow = 0#4
    else p.unitHigh = nibble s.gates.a ∧ p.unitLow = nibble s.gates.b) ∧
  p.modelSeeded = s.column.seeded ∧
  p.columnVolume = BitVec.ofNat 32 (s.column.segments.map Segment.volume).sum ∧
  p.wetVolume = BitVec.ofNat 32 (if s.column.seeded = true then
    wetWithin s.column.segments (min s.prof.drawZone s.columnVolume) else 0) ∧
  p.surface = BitVec.ofNat 16 (if s.column.seeded = true then surfaceDepth s.prof.bands s.columnVolume
    else chuteDepth s.prof.bands) ∧
  p.generation = BitVec.ofNat 8 s.store.generation ∧
  p.counter = BitVec.ofNat 32 (if s.straps.role = .tip then s.tip.cumulative else s.drawn.cumulative) ∧
  (p.digestPresent = true ↔ s.profile ≠ none) ∧
  p.digest = BitVec.ofNat 16 ((s.profile.map Profile.digest).getD 0)

/-- The gate sequencers' restart states, as the limit inputs then stand (R71, R105). -/
def gatesStarted (s : State) : State :=
  match s.straps.role with
  | .tip => s
  | .draw =>
    let q (g : Gate) : GateSeq :=
      { state := if s.ProvenClosed g then .closed
                 else if s.active (closedLimitInput g) = true ∧ s.active (openLimitInput g) = true then
                   .fault .limitConflict
                 else .fault .gateDrift
        mode := none, wetCap := none, mass := 0, token := none
        renewal := ⟨false, 0⟩, warning := ⟨false, 0⟩, stroke := ⟨false, 0⟩, dribble := ⟨true, false⟩
        record := none }
    { s with
      gates := ⟨q .a, q .b⟩
      restartCauses := if s.ProvenClosed .a ∧ s.ProvenClosed .b then s.restartCauses
                       else { s.restartCauses with gateFault := true } }

/-- An input with its first conditioned state: an open stop loop enters the restart HALT, the park input of a TIP
station gives the breaker its restart state; and once no input wants its first state the other blocks take theirs, and
the port's buffers and counter are emptied (R71, R94, R162, R179). -/
def firstStateTaken (i : InputNo) (x : InputState) (s : State) : State :=
  let t : State := { s with
    field := { s.field with inputs := s.field.inputs.set i x }
    restartCauses :=
      if i = stopLoopInput ∧ x.conditioned = some false then { s.restartCauses with stopLoop := true }
      else s.restartCauses
    breaker :=
      if s.straps.role = .tip ∧ i = parkInput then
        ⟨if x.conditioned = some true then .parked else .fault .notParked, ⟨false, 0⟩, ⟨false, 0⟩, none⟩
      else s.breaker }
  if (∀ j : InputNo, t.conditioned j ≠ none) ∧ s.blocksStarted = false then
    let u := wetEvaluated (gatesStarted t)
    { u with blocksStarted := true, port := { u.port with malformed := 0, report := none, buffer := [] } }
  else t

/-! ### The restart's check -/

/-- The check of the stored image marks PROFILE: for any clamp where it passes; for the headroom alone where it fails
at the station table or later (R2, R180, notes/assumptions/36.md). -/
abbrev ProfileMarked (failure : Option ProfileReason) (m : Memory) : Prop :=
  (failure = none ∧ clampCount m ≠ 0) ∨
  ((failure = some .stationTable ∨ failure = some .limitDepth ∨ failure = some .thresholds) ∧
    2000 < twoAt m (passAt m + 60))

/-! ### Own frames as a peer reads them -/

/-- Every field of the frame has a value that its place in the payload can carry (12.1). -/
abbrev Frame.InRange : Frame → Prop
  | .holdSet (.halt c) => c ≠ Causes.none
  | .holdSet (.ranging gap depth) => -2147483648 ≤ gap ∧ gap < 2147483648 ∧ depth < 65536
  | .holdSet .entry | .holdSet (.starved _) | .holdLift _ | .withdraw _ => True
  | .offer cls volume _ => cls < 256 ∧ volume < 4294967296
  | .tipped load generation total =>
    load.cls < 256 ∧ load.volume < 4294967296 ∧ generation < 256 ∧ total < 4294967296
  | .drawn generation total _ _ _ => generation < 256 ∧ total < 4294967296
  | .surface depth q => depth < 65536 ∧ ∀ n, q = .numeric n → 1 ≤ n ∧ n ≤ 15
  | .state formed => formed ≠ none

/-- A peer that receives the command takes from it what the frame says (12.1, R186). -/
abbrev ReadAs (h : Header) (c : Instr) : Frame → Prop
  | .holdSet body => ∃ p, c = .holdSetArrival (.received h p) ∧ holdBodyOf p = some body
  | .holdLift kind => ∃ b, c = .holdLiftArrival (.received h b) ∧ holdKindOf b = some kind
  | .offer cls volume moisture => ∃ p, c = .offerArrival (.received h p) ∧ p.cls.toNat = cls ∧
      p.volume.toNat = volume ∧ moistureRead p.moisture = moisture
  | .withdraw cause => ∃ b, c = .withdrawArrival (.received h b) ∧ b.toNat = withdrawCode cause
  | .tipped load generation total => ∃ p, c = .tippedArrival (.received h p) ∧ tippedLoad p = load ∧
      p.generation.toNat = generation ∧ p.cumulative.toNat = total
  | .drawn generation total a b d => ∃ p, c = .drawnArrival (.received h p) ∧ p.generation.toNat = generation ∧
      p.cumulative.toNat = total ∧ p.flags.getLsbD 0 = a ∧ p.flags.getLsbD 1 = b ∧ p.flags.getLsbD 2 = d
  | .surface depth q => ∃ p, c = .surfaceArrival (.received h p) ∧ p.depth.toNat = depth ∧
      qualityOf p.quality = some q
  | .state (some p) => c = .stateArrival (.received h p)
  | .state none => False

/-! ### STATUS, item by item -/

/-- The items of a block from one item code on, none of which repeats. -/
def itemsFrom (block : Nat) : Nat → List (List Byte) → List StatusItem
  | _, [] => []
  | item, v :: rest => ⟨block, item, 0, v⟩ :: itemsFrom block (item + 1) rest

/-- An item that repeats for gates A and B. -/
def gateItems (block item : Nat) (f : Gate → List Byte) : List StatusItem :=
  [⟨block, item, 1, f .a⟩, ⟨block, item, 2, f .b⟩]

/-- The time left on a timer; not present where it is stopped with nothing left. -/
def timeShown (t : Timer) : List Byte := if t = ⟨false, 0⟩ then [] else nat4 t.left

/-- Block 1, station and port (R172). -/
def stationShown (s : State) : List StatusItem :=
  itemsFrom 1 1
    [[BitVec.ofNat 8 s.straps.station, if s.straps.role = .tip then 1#8 else 2#8, BitVec.ofNat 8 s.straps.rate],
     [match s.mode with | .listening => 1#8 | .ready => 2#8 | .safe => 3#8 | .starting => 4#8],
     match s.profileResult with
       | .invalid r => [1#8, BitVec.ofNat 8 (reasonCode r), 0#8, 0#8]
       | .valid => [2#8, 0#8, 0#8, 0#8]
       | .validClamped n => [3#8, 0#8] ++ nat2 n,
     (s.profile.map (fun p => nat4 p.issue)).getD [],
     [match s.store.write with | .idle => 1#8 | .writing => 2#8 | .done => 3#8 | .failed => 4#8],
     nat2 s.port.malformed,
     bytes2 (s.port.pendingEvents.setWidth 16) ++ bytes2 (s.port.enabledEvents.setWidth 16)]

/-- A surface reading as STATUS and reports give it. -/
def readingShown (r : Reading) : List Byte :=
  nat2 r.depth ++ nat1 (qualityCode r.quality) ++ nat1 r.sender ++ nat4 r.time ++
  [match r.disposition with | .seeded => 1#8 | .reAnchored => 2#8 | .held => 3#8]

/-- Block 2, column: the records of R20, then the figures of R18. -/
def columnShown (s : State) : List StatusItem :=
  let c := s.column
  itemsFrom 2 1
    [nat4 c.spillVolume, nat2 c.spillCount, nat4 c.underrunVolume, nat2 c.underrunCount, nat2 c.driftCount,
     nat2 c.mergeCount, (c.lastReading.map readingShown).getD [],
     (match c.lastReason with
       | some .seeded => [1#8] | some .overfull => [2#8] | some .underrun => [3#8] | some .drift => [4#8]
       | some .dribble => [5#8] | none => []),
     (if c.seeded = true then [2#8] else [1#8]), nat4 s.columnVolume, nat2 s.modelSurface, nat4 s.zone,
     nat4 s.wetZone]

/-- Block 3, watch (R55). -/
def watchShown (s : State) : List StatusItem :=
  itemsFrom 3 1
    [[match s.watch.wet with | .clear => 1#8 | .restricted => 2#8 | .refused => 3#8],
     (s.watch.gap.map (fun g => int4 g.gap ++ nat2 g.surface ++ nat4 g.time)).getD []] ++
  gateItems 3 3 (fun g => if s.straps.role = .draw then nat4 (s.watch.windows.get g).count else []) ++
  itemsFrom 3 4 [if s.straps.role = .draw then timeShown s.watch.wetRest else []]

/-- Block 4, holds (R72). -/
def holdsShown (s : State) : List StatusItem :=
  itemsFrom 4 1 [(s.holds.filter (fun h => h.holder == s.own)).flatMap holdBytes, nat2 s.holds.length]

/-- A load as STATUS shows it. -/
def loadShown (l : Load) : List Byte :=
  nat1 l.cls ++ nat4 l.volume ++ nat1 (moistureCode l.moisture) ++ nat1 (flagsCode l.oversize l.estimated l.unauthorised)

/-- Block 5, tip and reservations (R93). -/
def tipShown (s : State) : List StatusItem :=
  itemsFrom 5 1
    [nat1 (tipCode s.tip.stage),
     (match s.tip.stage with
       | .idle => []
       | .requested l | .offered l | .tipping l | .settling l => loadShown l),
     timeShown s.tip.offerTimer, timeShown s.tip.settleTimer,
     [if s.drive 0 = true then 1#8 else 2#8, if s.drive 1 = true then 1#8 else 2#8],
     (match s.tip.lastOutcome with
       | none => []
       | some o =>
         (match o.outcome with
           | .tipped => [1#8, 0#8] | .noRoom => [2#8, 0#8]
           | .withdrawn c => [3#8, BitVec.ofNat 8 (withdrawCode c)]) ++ loadShown o.load ++ nat4 o.time),
     nat4 s.tip.cumulative, nat1 s.store.generation, nat2 s.reservations.length,
     (if s.column.seeded = true then
       nat4 (roomBelow s.prof.bands (s.prof.limitDepth s.own) s.columnVolume (reservedVolume s.reservations))
      else [])]

/-- Block 6, breaker (R104). -/
def breakerShown (s : State) : List StatusItem :=
  itemsFrom 6 1
    [nat1 (breakerCode s.breaker.state),
     (match s.breaker.state with
       | .fault .notParked => [1#8] | .fault .parkLost => [2#8] | .parked | .working _ | .returning => []),
     (match s.breaker.state with
       | .working token => [if token = true then 1#8 else 0#8] | .parked | .returning | .fault _ => []),
     timeShown s.breaker.renewal, timeShown s.breaker.returning,
     [if s.drive 2 = true then 1#8 else 2#8], [if s.active parkInput = true then 1#8 else 2#8],
     (match s.breaker.lastEnd with
       | none => []
       | some (.stop, t) => [1#8] ++ nat4 t | some (.renewalLapse, t) => [2#8] ++ nat4 t
       | some (.hold, t) => [3#8] ++ nat4 t | some (.stopLoop, t) => [4#8] ++ nat4 t)]

/-- A draw record as STATUS shows it (R105). -/
def recordShown (r : DrawRecord) : List Byte :=
  (match r.mode with | .held => [1#8] ++ nat4 0 | .batch t => [2#8] ++ nat4 t) ++ nat4 r.mass ++
  [match r.endCause with
    | none => 0#8 | some .stop => 1#8 | some .renewalLapse => 2#8 | some .hold => 3#8 | some .receiverLost => 4#8
    | some .cushion => 5#8 | some .wetLimit => 6#8 | some .batchDone => 7#8 | some .starved => 8#8
    | some .stopLoop => 9#8, if r.wetRestricted = true then 1#8 else 0#8] ++
  (match r.outcome with | none => [0#8] ++ nat4 0 | some (closed, t) => [if closed = true then 1#8 else 2#8] ++ nat4 t)

/-- Block 7, gates (R126). -/
def gatesShown (s : State) : List StatusItem :=
  let on (b : Bool) : Byte := if b = true then 1#8 else 2#8
  gateItems 7 1 (fun g => nat1 (gateStateCode (s.gate g).state)) ++
  gateItems 7 2 (fun g => match (s.gate g).state with
    | .fault .strokeTimeout => [1#8] | .fault .limitConflict => [2#8] | .fault .gateDrift => [3#8]
    | .fault .loopOpen => [4#8] | .closed | .warning | .opening | .opened | .closing => []) ++
  gateItems 7 3 (fun g => [on (s.active (openLimitInput g)), on (s.active (closedLimitInput g)),
    on (s.active (readyInput g))]) ++
  gateItems 7 4 (fun g => match g with
    | .a => [on (s.drive 0), on (s.drive 1), on (s.drive 2)]
    | .b => [on (s.drive 3), on (s.drive 4), on (s.drive 5)]) ++
  gateItems 7 5 (fun g => match (s.gate g).mode with
    | none => [] | some .held => [1#8] | some (.batch _) => [2#8]) ++
  gateItems 7 6 (fun g => match (s.gate g).mode with
    | none | some .held => [] | some (.batch t) => nat4 t) ++
  gateItems 7 7 (fun g => ((s.gate g).wetCap.map nat4).getD []) ++
  gateItems 7 8 (fun g => nat4 (s.gate g).mass) ++
  gateItems 7 9 (fun g => match (s.gate g).token with | none => [] | some t => [if t = true then 1#8 else 0#8]) ++
  gateItems 7 10 (fun g => timeShown (s.gate g).warning) ++
  gateItems 7 11 (fun g => timeShown (s.gate g).stroke) ++
  gateItems 7 12 (fun g => timeShown (s.gate g).renewal) ++
  gateItems 7 13 (fun g => ((s.gate g).record.map recordShown).getD []) ++
  itemsFrom 7 14 [nat4 s.drawn.cumulative, nat1 s.store.generation, nat4 s.drawn.reported,
    (s.profile.map (fun p => nat4 p.cushion)).getD [], nat4 s.columnVolume]

/-- Kind and class of the queued frames, by place from 1 (R187). -/
def queueShown : Nat → List QueuedFrame → List StatusItem
  | _, [] => []
  | place, q :: rest =>
    ⟨8, 4, place, nat1 (kindCode q.frame.kind) ++ nat1 q.frame.cls⟩ :: queueShown (place + 1) rest

/-- Block 8, line (R145). -/
def lineShown (s : State) : List StatusItem :=
  let c := s.line.counters
  itemsFrom 8 1 [nat1 s.straps.rate,
    [match s.line.state with | .active => 1#8 | .isolated => 2#8 | .offline => 3#8], nat2 s.line.queue.length] ++
  queueShown 1 s.line.queue ++
  itemsFrom 8 5
    [nat2 s.line.consecutive, (if s.line.state = .isolated then timeShown s.line.retryTimer else []),
     nat1 s.line.nextSeq, nat2 c.sent, nat2 c.arbitrationLosses, nat2 c.transmitErrors, nat2 c.discards, nat2 c.drops,
     nat2 c.received, nat2 c.crcErrors, nat2 c.lengthErrors, nat2 c.truncations, nat2 c.ownNumber, nat2 c.strangers,
     nat2 c.unknownKinds,
     (match s.line.lastReason with
       | none => [] | some .isolated => [1#8] | some .active => [2#8] | some .duplicate => [3#8]
       | some .stranger => [4#8])]

/-- Block 9, peers (R158). -/
def peersShown (s : State) : List StatusItem :=
  let count (p : Presence) : Nat := (s.peers.records.filter (fun r => r.presence == p)).length
  itemsFrom 9 1
    [[match s.mode with | .listening => 1#8 | .ready => 2#8 | .safe => 3#8 | .starting => 4#8],
     (if s.mode = .listening then timeShown s.peers.rollCall else []),
     nat2 (count .unheard) ++ nat2 (count .present) ++ nat2 (count .silent),
     nat2 (s.peers.records.filter (fun r => r.mismatch)).length,
     (s.profile.map (fun p => nat2 p.digest)).getD [], nat1 s.store.generation,
     nat4 (if s.straps.role = .tip then s.tip.cumulative else s.drawn.cumulative), timeShown s.peers.stateTimer]

/-- An item that repeats for the inputs, and one for the outputs (R187). -/
def inputItems (item : Nat) (f : InputNo → List Byte) : List StatusItem :=
  (List.finRange 12).map (fun i => ⟨10, item, i.val + 1, f i⟩)
def outputItems (item : Nat) (f : Fin 6 → List Byte) : List StatusItem :=
  (List.finRange 6).map (fun o => ⟨10, item, o.val + 1, f o⟩)

/-- Block 10, field terminal (R170). -/
def fieldShown (s : State) : List StatusItem :=
  let f := s.field
  let two (b : Bool) : List Byte := [if b = true then 1#8 else 2#8]
  inputItems 1 (fun i => match inputFunction s.straps.role i with
    | .stopLoop => [1#8] | .truckPresent => [2#8] | .breakerPark => [3#8]
    | .closedLimit .a => [4#8] | .openLimit .a => [5#8] | .receiverReady .a => [6#8]
    | .closedLimit .b => [7#8] | .openLimit .b => [8#8] | .receiverReady .b => [9#8] | .spare => [10#8]) ++
  inputItems 2 (fun i => two f.inputs[i].raw) ++
  inputItems 3 (fun i => match f.inputs[i].conditioned with | none => [] | some b => two b) ++
  inputItems 4 (fun i => [if f.inputs[i].forced = true then 1#8 else 0#8]) ++
  gateItems 10 5 (fun g => nat4 (f.pulses.get g)) ++
  itemsFrom 10 6
    [(match f.lastRaw with
       | none => []
       | some r => nat2 r.distance ++ nat1 r.quality ++ nat4 r.time ++
         [match r.reason with | .quality => 1#8 | .range => 2#8 | .none => 3#8]),
     (f.lastAccepted.map (fun r => nat2 r.depth ++ nat1 r.quality ++ nat4 r.time)).getD [],
     (f.pendingReading.map (fun r => nat2 r.1 ++ nat1 r.2)).getD [], timeShown f.pacing,
     nat2 f.malformed, nat2 f.ignored, nat2 f.rejectedQuality, nat2 f.rejectedRange] ++
  outputItems 14 (fun o => [if s.straps.role = .draw then BitVec.ofNat 8 (o.val + 4)
    else if o.val < 3 then BitVec.ofNat 8 (o.val + 1) else 10#8]) ++
  outputItems 15 (fun o => two (s.command o)) ++
  outputItems 16 (fun o => two (s.drive o)) ++
  itemsFrom 10 17 [[(if s.mode = .starting then 1#8 else 0#8) + (if s.mode = .safe then 2#8 else 0#8) +
    (if s.conditioned stopLoopInput = some false then 4#8 else 0#8)]]

/-- Items shown as not available. -/
def withheld (hidden : Bool) (l : List StatusItem) : List StatusItem :=
  if hidden = true then l.map (fun i => { i with value := [] }) else l

/-- Every item of STATUS in order: blocks 2 to 9 not available before the blocks have their restart state, and the
blocks of the other role not at all (R172, R187; the coding of items is notes/assumptions/18.md). -/
def statusShown (s : State) : List StatusItem :=
  stationShown s ++
  withheld (decide (s.mode = .starting) && !s.blocksStarted)
    (columnShown s ++ watchShown s ++ holdsShown s ++ withheld (decide (s.straps.role = .draw)) (tipShown s) ++
      withheld (decide (s.straps.role = .draw)) (breakerShown s) ++
      withheld (decide (s.straps.role = .tip)) (gatesShown s) ++ lineShown s ++ peersShown s) ++
  fieldShown s

/-- The bytes of items in an answer. -/
def itemsLength (l : List StatusItem) : Nat := (l.map (fun i => 4 + i.value.length)).sum

/-- The items an answer gives of those it is asked for: whole items, as many as 250 bytes hold, the last item of block
10 with the closing item; none where none is left to give (R187). -/
abbrev RunOf (asked items : List StatusItem) : Prop :=
  itemsLength items ≤ 250 ∧
  ((asked = [] ∧ items = []) ∨ (asked ≠ [] ∧ items = asked ++ [⟨0, 0, 0, []⟩]) ∨
   ∃ group rest, items ≠ [] ∧ group ≠ [] ∧ asked = items ++ group ++ rest ∧
     (∀ x ∈ group, ∀ y ∈ group, (x.block, x.item) = (y.block, y.item)) ∧
     (∀ x ∈ group, ∀ y ∈ items ++ rest, (x.block, x.item) ≠ (y.block, y.item)) ∧
     250 < itemsLength items + itemsLength group + (if rest = [] then 4 else 0))

end Sys2Proof.Machine
end

