-- ==== Sys2Proof/Certificates/Slice0/Obligations.lean ====
section
/-! DEFINITION. The statements about the machine, for the provers. Where a statement rests on a choice of the model,
its docstring names the log entry. -/

open Sys2Proof Sys2Proof.Machine

/-! ## The machine -/

/-- A step runs the command at the front of the queue on the state with the queue's rest. On an empty queue, by the
model's choice (notes/assumptions/2.md), it takes the command that the part's own clock has due, and otherwise lets one
millisecond pass. -/
def Obligations.StepRunsFrontCommand : Prop :=
  (∀ (c : Instr) (rest : List Instr) (s : State), s.pending = c :: rest →
    step s = exec c { s with pending := rest }) ∧
  (∀ s : State, s.pending = [] →
    (∀ c, s.dueCommand = some c → step s = exec c s) ∧
    (s.dueCommand = none → step s = .next s.tick))

/-- No command touches the commands that wait. -/
def Obligations.CommandLeavesQueue : Prop :=
  ∀ (c : Instr) (s : State), ∃ t, exec c s = .next t ∧ t.pending = s.pending

/-- What the spec says of the machine right after reset: at the start of STARTING after a COLD restart, every block at
its restart value; and every invariant below holds there. The values of straps, inputs and store are the model's
(notes/assumptions/9.md) and are not stated. -/
def Obligations.ResetIsColdStart : Prop :=
  State.reset.pending = [] ∧ State.reset.mode = .starting ∧ State.reset.time = 0 ∧
  State.reset.column = ⟨false, [], 0, 0, 0, 0, 0, 0, 0, none, none⟩ ∧
  State.reset.watch = ⟨.clear, none, ⟨⟨⟨false, 0⟩, 0⟩, ⟨⟨false, 0⟩, 0⟩⟩, ⟨false, 0⟩⟩ ∧
  State.reset.holds = [] ∧ State.reset.reservations = [] ∧
  State.reset.tip = ⟨.idle, ⟨false, 0⟩, ⟨false, 0⟩, 0, none⟩ ∧
  State.reset.drawn = ⟨0, 0, false⟩ ∧
  State.reset.line = ⟨.offline, [], [], none, 0, 0, ⟨false, 0⟩, false, false, none,
    ⟨0, 0, 0, 0, 0, 0, 0, 0, 0, 0, 0, 0⟩⟩ ∧
  (∀ i : InputNo, State.reset.conditioned i = none) ∧
  State.reset.port.pendingEvents = 1#12 ∧ State.reset.port.enabledEvents = 0xFFF#12 ∧
  State.reset.port.malformed = 0 ∧ State.reset.port.report = none ∧ State.reset.port.buffer = [] ∧
  State.reset.port.window = true ∧ State.reset.store.write = .idle ∧
  State.reset.ColumnKept ∧ State.reset.BuffersKept ∧ State.reset.ReservationsKept ∧ State.reset.QueueKept ∧
  State.reset.AtRest ∧ State.reset.HoldsKept ∧ State.reset.TipSafe ∧ State.reset.DrawSafe ∧
  State.reset.AnswerFits

/-! ## Invariants that every step keeps -/

/-- The column never outgrows the pass, its list never exceeds 32 segments, and no segment is empty. -/
def Obligations.StepKeepsColumn : Prop :=
  ∀ s t : State, s.ColumnKept → step s = .next t → t.ColumnKept

/-- The load buffer and the stored image stay in canonical form within their 512 bytes. -/
def Obligations.StepKeepsBuffers : Prop :=
  ∀ s t : State, s.BuffersKept → step s = .next t → t.BuffersKept

/-- The reservation list keeps one entry a station, each in range. -/
def Obligations.StepKeepsReservations : Prop :=
  ∀ s t : State, s.ReservationsKept → step s = .next t → t.ReservationsKept

/-- The transmit queue keeps at most eight frames, one on the wire, one of each coalesced kind, and at a DRAW station
none of the tip sequencer, where no tip is in hand. -/
def Obligations.StepKeepsTransmitQueue : Prop :=
  ∀ s t : State, s.QueueKept → step s = .next t → t.QueueKept

/-- Nothing begins in STARTING, and the restart HALT bears RESTART; and with that the hold list keeps one entry of each
kind a holder, and no HALT stands without a cause. -/
def Obligations.StepKeepsHoldList : Prop :=
  (∀ s t : State, s.AtRest → step s = .next t → t.AtRest) ∧
  (∀ s t : State, s.AtRest → s.HoldsKept → step s = .next t → t.HoldsKept)

/-- At a TIP station no permit stands under a hold or with the breaker out, and no breaker works under a hold. -/
def Obligations.StepKeepsTipSafe : Prop :=
  ∀ s t : State, s.AtRest → s.TipSafe → step s = .next t → t.TipSafe

/-- At a DRAW station no gate draws while a hold of any station stands. -/
def Obligations.StepKeepsDrawSafe : Prop :=
  ∀ s t : State, s.AtRest → s.DrawSafe → step s = .next t → t.DrawSafe

/-- Every answer the panel port gives fits the one length byte of the link. -/
def Obligations.EveryAnswerFitsItsLengthByte : Prop :=
  ∀ (c : Instr) (s t : State), s.AnswerFits → exec c s = .next t → t.AnswerFits

/-! ## Requests while STARTING -/

/-- In STARTING the port answers BUSY to every request but STATUS, with no other effect. -/
def Obligations.StartingAnswersBusy : Prop :=
  ∀ (c : Instr) (code : Byte) (fields : List Byte) (s : State),
    messageFields c = some (code, fields) → c.wellFormed = true → 1 ≤ code.toNat → code.toNat ≤ 24 →
    code.toNat ≠ 16 → s.mode = .starting → s.port.restartPending = false → (∀ k, c ≠ .unknownRequest (.reportKind k)) →
    exec c s = .next { s with port := { s.port with answer := some ⟨code.toNat, .busy⟩ } }

/-! ## Tipping -/

/-- TIP is refused by the first test of R76 that fails, with no other effect; passing all, it is ACCEPTED, the tip is
REQUESTED with the class's volume, and its OFFER is handed over. -/
def Obligations.TipAnswered : Prop :=
  ∀ (cls moisture : Byte) (s : State), s.TakesRequests →
    exec (.tip cls moisture) s =
      .next (answerWith 1 (tipRefusal cls moisture s) .accepted (tipTaken cls moisture s) s)

/-- A withdrawn tip goes to IDLE with its outcome, and its OFFER is taken back if it has not begun; otherwise a
WITHDRAW follows it. An isolated station queues none, and its own reservation leaves at once. TIP-CANCEL withdraws a
tip that is REQUESTED or OFFERED with CANCEL, and is refused otherwise; the offer timer withdraws an OFFERED tip with
TIMEOUT. The settle timer counts the load that settles. -/
def Obligations.TipWithdrawnOrCounted : Prop :=
  (∀ (cause : WithdrawCause) (s : State),
    (∀ load, s.tip.stage = .requested load ∨ s.tip.stage = .offered load → s.line.state = .isolated →
      s.withdrawTip cause = { tipOver (.withdrawn cause) load s with
        reservations := s.reservations.filter (fun r => r.station != s.own) }) ∧
    (∀ load, s.tip.stage = .requested load → s.line.state ≠ .isolated →
      (∃ q ∈ s.line.queue, q.frame.kind = .offer ∧ q.started = false) →
      s.withdrawTip cause = { tipOver (.withdrawn cause) load s with
        line := { s.line with queue := s.line.queue.eraseP (fun q => q.frame.kind == .offer && !q.started) } }) ∧
    (∀ load, s.tip.stage = .requested load → s.line.state ≠ .isolated →
      (∀ q ∈ s.line.queue, q.frame.kind = .offer → q.started = true) →
      s.withdrawTip cause = (tipOver (.withdrawn cause) load s).handOver (.withdraw cause)) ∧
    (∀ load, s.tip.stage = .offered load → s.line.state ≠ .isolated →
      s.withdrawTip cause = (tipOver (.withdrawn cause) load s).handOver (.withdraw cause)) ∧
    (s.tip.stage.isOpen = false → s.withdrawTip cause = s)) ∧
  (∀ s : State, s.TakesRequests →
    exec .tipCancel s = .next (answerWith 2 (tipCancelRefusal s) .accepted (s.withdrawTip .cancel) s)) ∧
  (∀ (load : Load) (s : State), s.straps.role = .tip →
    (s.tip.stage = .offered load → s.tip.offerTimer.running = true →
      exec .offerTimerExpiry s = .next (s.withdrawTip .timeout)) ∧
    (s.tip.stage = .settling load → s.tip.settleTimer.running = true →
      exec .settleTimerExpiry s = .next (loadCounted load s)))

/-- The truck comes onto the grizzly, and leaves it: each tip state's action. The cause of the WITHDRAW that follows an
OFFER begun is named by no rule: it is a free value (notes/assumptions/33.md), and the statement holds for every
value. -/
def Obligations.TruckEdges : Prop :=
  (∀ s : State, s.straps.role = .tip → s.Live → s.EdgeTo truckInput true →
    let u := s.takeEdge truckInput true
    (∀ load, s.tip.stage = .offered load → exec .truckPresentActive s = .next (truckOn load u)) ∧
    (∀ load, s.tip.stage = .requested load →
      (∃ q ∈ s.line.queue, q.frame.kind = .offer ∧ q.started = false) →
      exec .truckPresentActive s = .next { truckOn { load with unauthorised := true, estimated := false } u with
        line := { s.line with queue := s.line.queue.eraseP (fun q => q.frame.kind == .offer && !q.started) } }) ∧
    (∀ load, s.tip.stage = .requested load →
      (∀ q ∈ s.line.queue, q.frame.kind = .offer → q.started = true) →
      ∃ cause, exec .truckPresentActive s = .next
        (({ truckOn { load with unauthorised := true, estimated := false } u with
            openReads := s.openReads + 1 } : State).handOver (.withdraw cause))) ∧
    (s.tip.stage = .idle → exec .truckPresentActive s = .next (truckOn (strangeLoad s) u)) ∧
    (∀ load, s.tip.stage = .tipping load → exec .truckPresentActive s = .next u) ∧
    (∀ load, s.tip.stage = .settling load →
      exec .truckPresentActive s = .next (truckOn (strangeLoad s) (loadCounted load u)))) ∧
  (∀ s : State, s.straps.role = .tip → s.Live → s.EdgeTo truckInput false →
    let u := s.takeEdge truckInput false
    (∀ load, s.tip.stage = .tipping load →
      exec .truckPresentInactive s = .next { u with tip := { s.tip with
        stage := .settling load
        settleTimer := if s.breaker.state = .parked then ⟨true, s.prof.settleTime * 1000⟩ else ⟨false, 0⟩ } }) ∧
    ((∀ load, s.tip.stage ≠ .tipping load) → exec .truckPresentInactive s = .next u))

/-! ## Rock breaker -/

/-- BREAK, BREAK-RENEW and BREAK-STOP: refused by the first test that fails; accepted, work begins with token 0 and a
full renewal window, goes on with the other token, or ends. -/
def Obligations.BreakerRequestsAnswered : Prop :=
  ∀ (token : Byte) (s : State), s.TakesRequests →
    exec .breakWork s = .next (answerWith 3 (breakRefusal s) .accepted
      (breakerOutAtTip (State.mark .breakerChange { s with breaker :=
        { s.breaker with state := .working false, renewal := ⟨true, s.prof.renewalWindow⟩ } })) s) ∧
    exec (.breakRenew token) s = .next (answerWith 4 (breakRenewRefusal token s) .accepted
      { s with breaker := { s.breaker with state := .working (decide (token.toNat = 1))
                                           renewal := ⟨true, s.prof.renewalWindow⟩ } } s) ∧
    exec .breakStop s = .next (answerWith 5 (breakStopRefusal s) .accepted (workOver .stop s) s)

/-- In every mode the boom comes home from RETURNING or FAULT to PARKED, and leaving park it faults with PARK-LOST and
the tip sequencer is told. Work whose renewal timer runs out ends with RENEWAL-LAPSE; a boom that is not home at the
return limit faults with NOT-PARKED. -/
def Obligations.BreakerInputAndTimers : Prop :=
  (∀ s : State, s.straps.role = .tip →
    (s.EdgeTo parkInput true →
      let u := s.takeEdge parkInput true
      (s.breaker.state = .returning ∨ (∃ c, s.breaker.state = .fault c) →
        exec .breakerParkActive s = .next (breakerHome u)) ∧
      (s.breaker.state = .parked ∨ (∃ b, s.breaker.state = .working b) →
        exec .breakerParkActive s = .next u)) ∧
    (s.EdgeTo parkInput false →
      let u := s.takeEdge parkInput false
      (s.breaker.state = .parked →
        exec .breakerParkInactive s =
          .next (breakerOutAtTip (State.mark .fault (breakerTo (.fault .parkLost) u)))) ∧
      (s.breaker.state ≠ .parked → exec .breakerParkInactive s = .next u))) ∧
  (∀ s : State, s.straps.role = .tip →
    (∀ b, s.breaker.state = .working b → s.breaker.renewal.running = true →
      exec .breakerRenewalExpiry s = .next (workOver .renewalLapse s)) ∧
    (s.breaker.state = .returning → s.breaker.returning.running = true →
      exec .returnTimerExpiry s = .next (State.mark .fault (breakerTo (.fault .notParked) s))))

/-! ## Drawing -/

/-- DRAW is refused by the first test of R107 that fails, with no other effect; passing all, the gate's draw begins and
nothing else of the station changes. -/
def Obligations.DrawAnswered : Prop :=
  ∀ (gate mode : Byte) (target : Option Word16) (s : State), s.TakesRequests →
    exec (.draw gate mode target) s =
      .next (answerWith 6 (drawRefusal gate mode target s) .accepted
        (s.withGate (gateNamed gate) (drawTaken mode target s)) s)

/-- DRAW-RENEW takes the other token and starts the window again; GATE-RESET brings a gate proven closed out of FAULT,
its record and dribble period standing; both change that gate's sequencer alone. DRAW-STOP ends the draw in hand with
STOP. Each is refused by the first test that fails. -/
def Obligations.DrawRequestsAnswered : Prop :=
  (∀ (gate token : Byte) (s : State), s.TakesRequests →
    exec (.drawRenew gate token) s =
      .next (answerWith 7 (drawRenewRefusal gate token s) .accepted
        (s.withGate (gateNamed gate) (fun q =>
          { q with token := some (decide (token.toNat = 1)), renewal := ⟨true, s.prof.renewalWindow⟩ })) s) ∧
    exec (.gateReset gate) s =
      .next (answerWith 9 (gateResetRefusal gate s) .accepted
        (s.withGate (gateNamed gate) (fun q => { q with state := .closed })) s)) ∧
  (∀ (gate : Byte) (s : State), s.TakesRequests →
    exec (.drawStop gate) s =
      .next (answerWith 8 (drawStopRefusal gate s) .accepted
        ((s.endDraw .stop (gateNamed gate)).inform s) s))

/-- A draw in WARNING, OPENING or OPEN ends with its cause in the record: from WARNING, or where the gate is proven
closed, it is CLOSED and complete; otherwise the gate is on its closing stroke. A gate that faults stops its timers,
completes the draw in hand with FAULT, and adds GATE-FAULT to the own HALT where it is not proven closed; that the
draw mode and wet cap are then gone is the model's choice (notes/assumptions/21.md), and so is that the DRAWN goes
before GATE-FAULT joins the HALT (notes/assumptions/45.md). -/
def Obligations.DrawEndsAndGateFaults : Prop :=
  (∀ (cause : EndCause) (g : Gate) (s : State),
    ((s.gate g).Drawing → s.endDraw cause g = drawEnded cause g s) ∧
    (¬(s.gate g).Drawing → s.endDraw cause g = s)) ∧
  (∀ (cause : GateFault) (g : Gate) (s : State), s.enterFault cause g = gateFaulted cause g s)

/-- The limit inputs, in every mode: both active is a conflict; the closed limit completes a closing stroke, and its
loss in CLOSED or WARNING is drift; the open limit takes OPENING to OPEN, where the draw's mass is tested at once; the
loss of an open limit changes no gate. The loss of the receiver ends the draw with RECEIVER-LOST in LISTENING and READY; its return
changes the input alone. -/
def Obligations.GateInputEdges : Prop :=
  (∀ (g : Gate) (s : State), s.straps.role = .draw →
    (s.EdgeTo (closedLimitInput g) true →
      let u := s.takeEdge (closedLimitInput g) true
      exec (.closedLimitActive g) s = .next (State.inform
        (if u.active (openLimitInput g) = true then
          (if (s.gate g).state.isFault = true then u else u.enterFault .limitConflict g)
        else if (s.gate g).state = .closing then strokeDone g u
        else u) s)) ∧
    (s.EdgeTo (closedLimitInput g) false →
      let u := s.takeEdge (closedLimitInput g) false
      exec (.closedLimitInactive g) s = .next (State.inform
        (if (s.gate g).state = .closed ∨ (s.gate g).state = .warning then u.enterFault .gateDrift g else u) s)) ∧
    (s.EdgeTo (openLimitInput g) true →
      let u := s.takeEdge (openLimitInput g) true
      exec (.openLimitActive g) s = .next (State.inform
        (if u.active (closedLimitInput g) = true then
          (if (s.gate g).state.isFault = true then u else u.enterFault .limitConflict g)
        else if (s.gate g).state = .opening then
          (match massMet (s.gate g) with
            | some cause => (openEntered g u).endDraw cause g
            | none => openEntered g u)
        else u) s)) ∧
    (s.EdgeTo (openLimitInput g) false →
      exec (.openLimitInactive g) s = .next (s.takeEdge (openLimitInput g) false))) ∧
  (∀ (g : Gate) (s : State), s.straps.role = .draw →
    (s.Live → s.EdgeTo (readyInput g) false →
      exec (.receiverReadyInactive g) s =
        .next (((s.takeEdge (readyInput g) false).endDraw .receiverLost g).inform s)) ∧
    (s.EdgeTo (readyInput g) true →
      exec (.receiverReadyActive g) s = .next (s.takeEdge (readyInput g) true)))

/-- The gate's timers: the warning runs out into OPENING, the stroke into FAULT, the renewal ends a draw with
RENEWAL-LAPSE; a short starvation window ends the draw with STARVED and raises the own HANGUP (entry, HOLD-CHANGE,
HOLD-SET, effects, HANGUP event) unless one stands, any other starts again; the wet rest stops. That the HOLD-SET is
handed over before the entry's effects (notes/assumptions/41.md), that these take gate A first
(notes/assumptions/44.md), and that a faulted draw's DRAWN goes before GATE-FAULT (notes/assumptions/45.md) is the
model's choice. -/
def Obligations.GateTimersExpire : Prop :=
  ∀ (g : Gate) (s : State), s.straps.role = .draw →
    ((s.gate g).state = .warning → (s.gate g).warning.running = true →
      exec (.warningTimerExpiry g) s = .next (s.withGate g (openingBegun s))) ∧
    ((s.gate g).state = .opening ∨ (s.gate g).state = .closing → (s.gate g).stroke.running = true →
      exec (.strokeTimerExpiry g) s = .next ((s.enterFault .strokeTimeout g).inform s)) ∧
    ((s.gate g).Drawing → (s.gate g).renewal.running = true →
      exec (.drawRenewalExpiry g) s = .next ((s.endDraw .renewalLapse g).inform s)) ∧
    ((s.gate g).state = .opened → (s.watch.windows.get g).timer.running = true →
      (s.watch.windows.get g).count < s.prof.starvationThreshold →
      exec (.starvationWindowExpiry g) s = .next ((starvedRaised g (s.endDraw .starved g)).inform s)) ∧
    ((s.gate g).state = .opened → (s.watch.windows.get g).timer.running = true →
      s.prof.starvationThreshold ≤ (s.watch.windows.get g).count →
      exec (.starvationWindowExpiry g) s = .next { s with watch := { s.watch with
        windows := s.watch.windows.modify g (fun _ => ⟨⟨true, s.prof.starvationWindow * 1000⟩, 0⟩) } }) ∧
    exec .wetRestExpiry s = .next { s with watch := { s.watch with wetRest := ⟨false, 0⟩ } }

/-- A weigher pulse in LISTENING or READY at a DRAW station: the raw count, the cumulative drawn mass, mass this draw
and the starvation window of the gate, the column by R9 and R27; an OPEN draw that meets its target ends with
BATCH-DONE, one that meets its wet cap with WET-LIMIT; a pulse at a gate that does not run is dribble, told once a
period; and at the report quantum a DRAWN is formed. Elsewhere a pulse advances the raw count alone. -/
def Obligations.WeigherPulseCounts : Prop :=
  (∀ (g : Gate) (s : State), s.straps.role = .draw → s.Live → s.QueueKept →
    let quantum := s.prof.weigherQuantum
    let mass := min ((s.gate g).mass + quantum) 4294967295
    let total := min (s.drawn.cumulative + quantum) 4294967295
    let volume := (quantum * 10000 + s.column.remainder) / s.prof.density
    let runs := (s.gate g).state = .opening ∨ (s.gate g).state = .opened ∨ (s.gate g).state = .closing
    ∃ t, exec (.weigherPulse g) s = .next t ∧
      t.field = { s.field with pulses := s.field.pulses.modify g (fun n => min (n + 1) 4294967295) } ∧
      t.drawn.cumulative = total ∧
      (runs → (t.gate g).mass = mass) ∧ (¬runs → (t.gate g).mass = (s.gate g).mass) ∧
      (t.gate (otherGate g)).mass = (s.gate (otherGate g)).mass ∧
      t.column.segments =
        (if s.column.seeded = true ∧ quantum ≠ 0 then takeVolume s.column.segments volume else s.column.segments) ∧
      -- the draw of the pulse's gate
      (∀ target, (s.gate g).state = .opened → (s.gate g).mode = some (.batch target) → target ≤ mass →
        (t.gate g).state.drawing = false ∧
        ∀ r, (s.gate g).record = some r → ∃ r', (t.gate g).record = some r' ∧ r'.endCause = some .batchDone) ∧
      (∀ cap, (s.gate g).state = .opened → (∀ target, (s.gate g).mode = some (.batch target) → mass < target) →
        (s.gate g).wetCap = some cap → cap ≤ mass →
        (t.gate g).state.drawing = false ∧
        ∀ r, (s.gate g).record = some r → ∃ r', (t.gate g).record = some r' ∧ r'.endCause = some .wetLimit) ∧
      ((∀ target, (s.gate g).mode = some (.batch target) → mass < target) →
        (∀ cap, (s.gate g).wetCap = some cap → mass < cap) → t.watch.wet = s.watch.wet →
        s.prof.cushion < t.columnVolume → ∀ x, (t.gate x).state = (s.gate x).state) ∧
      -- the starvation window
      ((s.gate g).state = .opened → (t.gate g).state = .opened →
        t.watch.windows.get g = ⟨(s.watch.windows.get g).timer, (s.watch.windows.get g).count + quantum⟩) ∧
      ((s.gate g).state = .opened → (t.gate g).state ≠ .opened → t.watch.windows.get g = ⟨⟨false, 0⟩, 0⟩) ∧
      ((s.gate g).state ≠ .opened → t.watch.windows.get g = s.watch.windows.get g) ∧
      -- dribble
      (¬runs → (t.gate g).state = (s.gate g).state →
        (t.gate g).dribble = { (s.gate g).dribble with raised := true }) ∧
      (¬runs → (s.gate g).dribble.raised = false → t.isPending .model = true ∧
        t.column.lastReason = some (if s.column.seeded = true ∧ quantum ≠ 0 ∧ s.columnVolume < volume then .underrun
          else .dribble)) ∧
      -- the DRAWN
      (s.drawn.reported + s.prof.reportQuantum ≤ total →
        t.drawn.reported = total ∧ t.drawn.dribble = false ∧
        (s.line.state = .active → s.line.queue.length < 8 →
          (∀ q ∈ s.line.queue, q.frame.kind = .drawn → q.onWire = false) →
          ∃ q ∈ t.line.queue, ∃ a b d, q.frame = .drawn s.store.generation total a b d ∧
            (0 < s.prof.reportQuantum → (d = true ↔ s.drawn.dribble = true ∨ ¬runs)))) ∧
      (total < s.drawn.reported + s.prof.reportQuantum → (∀ x, (t.gate x).state = (s.gate x).state) →
        t.line = s.line ∧ t.drawn.reported = s.drawn.reported ∧
        (t.drawn.dribble = true ↔ s.drawn.dribble = true ∨ ¬runs)) ∧
      t.holds = s.holds ∧ t.reservations = s.reservations ∧ t.tip = s.tip ∧ t.breaker = s.breaker ∧
      t.peers = s.peers ∧ t.mode = s.mode ∧ t.store = s.store ∧ t.profile = s.profile) ∧
  (∀ (g : Gate) (s : State), s.straps.role = .tip ∨ ¬s.Live →
    exec (.weigherPulse g) s = .next { s with field := { s.field with
      pulses := s.field.pulses.modify g (fun n => min (n + 1) 4294967295) } })

/-- A change of the column or of the reservations at the sequencers: an OFFERED tip whose room is gone is withdrawn
with ROOM; a column newly REFUSED ends both draws with WET-LIMIT; one newly RESTRICTED caps the draws that have no wet
cap and ends those whose mass has reached it; one at or below the cushion ends what is left with CUSHION. Where none of
these is met, nothing happens. That gate A's draw ends first is the model's choice (notes/assumptions/44.md). -/
def Obligations.ColumnChangeTold : Prop :=
  ∀ s before : State,
    let changed := s.column.segments ≠ before.column.segments ∨ s.column.seeded ≠ before.column.seeded
    let low := changed ∧ s.columnVolume ≤ s.prof.cushion
    (s.straps.role = .tip →
      (∀ load, s.tip.stage = .offered load → changed ∨ s.reservations ≠ before.reservations →
        s.column.seeded = true →
        s.inform before =
          if roomBelow s.prof.bands (s.prof.limitDepth s.own) s.columnVolume
              (reservedVolume (s.reservations.takeWhile (fun r => r.station != s.own))) < load.volume then
            s.withdrawTip .room
          else s) ∧
      ((∀ load, s.tip.stage ≠ .offered load) ∨ s.column.seeded = false ∨
        (¬changed ∧ s.reservations = before.reservations) → s.inform before = s)) ∧
    (s.straps.role = .draw →
      (s.watch.wet = before.watch.wet ∨ s.watch.wet = .clear → low →
        s.inform before = (s.endDraw .cushion .a).endDraw .cushion .b) ∧
      (s.watch.wet = before.watch.wet ∨ s.watch.wet = .clear → ¬low → s.inform before = s) ∧
      (s.watch.wet = .refused → before.watch.wet ≠ .refused →
        s.inform before = ((wetTold before s).endDraw .wetLimit .a).endDraw .wetLimit .b) ∧
      (s.watch.wet = .restricted → before.watch.wet ≠ .restricted →
        (∀ g, (s.gate g).wetCap = (before.gate g).wetCap) →
        let ended (g : Gate) (t : State) : State :=
          if (s.gate g).wetCap = none ∧ s.prof.wetDrawLimit ≤ (s.gate g).mass then t.endDraw .wetLimit g
          else if low then t.endDraw .cushion g else t
        s.inform before = ended .b (ended .a (wetTold before s))))

/-! ## Holds -/

/-- An entry enters the list at its end, or has its fields replaced in its place, HOLD-CHANGE marked, an own change
reported, the sequencers told; an entry that stands as given changes nothing. An entry leaves the list whole; the
sequencers are not told, and no work begins again. That the own HOLD-SET is handed over before the effects, which
decides the tip's outcome at a full queue, is the model's choice (notes/assumptions/41.md), and so is that the effects
take gate A first (notes/assumptions/44.md). -/
def Obligations.HoldListChanges : Prop :=
  (∀ (holder : Nat) (body : HoldBody) (s : State),
    ((∀ h ∈ s.holds, ¬(h.holder = holder ∧ h.body.kind = body.kind)) →
      s.enterHold holder body = holdTaken holder body (s.holds ++ [⟨holder, s.time, body⟩]) s) ∧
    (∀ h, s.holds.find? (fun h => h.holder == holder && h.body.kind == body.kind) = some h → h.body ≠ body →
      s.enterHold holder body = holdTaken holder body
        (s.holds.map (fun h => if h.holder = holder ∧ h.body.kind = body.kind then { h with body := body } else h)) s) ∧
    (∀ h, s.holds.find? (fun h => h.holder == holder && h.body.kind == body.kind) = some h → h.body = body →
      s.enterHold holder body = s)) ∧
  (∀ (holder : Nat) (kind : HoldKind) (s : State),
    s.removeHold holder kind =
      if ∃ h ∈ s.holds, h.holder = holder ∧ h.body.kind = kind then holdGone holder kind s else s)

/-- HALT adds OPERATOR to the own HALT; HALT-RELEASE takes every cause it can, answers what remains, and closes the
commissioning window with RESTART. ENTRY adds the own ENTRY; ENTRY-RELEASE and HANGUP-CLEAR take the own entry off the
list, the clear with the gap estimate, marking HANGUP. -/
def Obligations.HoldRequestsAnswered : Prop :=
  (∀ s : State, s.TakesRequests →
    exec .halt s = .next (answerWith 10 (liveRefusal s) .accepted
      ((s.enterHold s.own (.halt { s.ownCauses with operator := true })).inform s) s) ∧
    exec .haltRelease s = .next (answerWith 11 (haltReleaseRefusal s) (.acceptedCauses (remainingAfterRelease s))
      (let u := if s.ownCauses.restart = true then { s with port := { s.port with window := false } } else s
       (if remainingAfterRelease s = Causes.none then u.removeHold s.own .halt
        else u.enterHold s.own (.halt (remainingAfterRelease s))).inform s) s)) ∧
  (∀ s : State, s.TakesRequests →
    exec .entry s = .next (answerWith 12 (liveRefusal s) .accepted ((s.enterHold s.own .entry).inform s) s) ∧
    exec .entryRelease s = .next (answerWith 13 (releaseRefusal .entry s) .accepted
      ((s.removeHold s.own .entry).inform s) s) ∧
    exec .hangupClear s = .next (answerWith 14 (releaseRefusal .hangup s) .accepted
      (let u := s.removeHold s.own .hangup
       (State.mark .hangup { u with watch := { u.watch with gap := none } }).inform s) s))

/-- The stop loop opens at a TIP station: breaker work is cut, and STOP-LOOP is added to the own HALT. In STARTING an
opening loop goes into the restart HALT alone; a closing loop changes its input alone, in either role and every
mode. -/
def Obligations.StopLoopAtTip : Prop :=
  (∀ s : State, s.straps.role = .tip → s.mode ≠ .starting → s.EdgeTo stopLoopInput false →
    let u := s.takeEdge stopLoopInput false
    let cut (v : State) : State :=
      if v.active parkInput = true then breakerHome v else State.mark .fault (breakerTo (.fault .notParked) v)
    let v := match s.breaker.state with
      | .working _ => cut { u with breaker := { u.breaker with lastEnd := some (.stopLoop, s.time) } }
      | .returning => cut u
      | .parked | .fault _ => u
    exec .stopLoopOpens s =
      .next ((v.enterHold s.own (.halt { v.ownCauses with stopLoop := true })).inform s)) ∧
  (∀ s : State,
    (s.mode = .starting → s.EdgeTo stopLoopInput false →
      exec .stopLoopOpens s = .next { s.takeEdge stopLoopInput false with
        restartCauses := { s.restartCauses with stopLoop := true } }) ∧
    (s.EdgeTo stopLoopInput true →
      exec .stopLoopCloses s = .next (s.takeEdge stopLoopInput true)))

/-- The stop loop opens at a DRAW station: each gate ends as the table of R122 has it, its draw in hand completed with
record, DRAW-END, starvation window, wet rest and DRAWN; a gate left in FAULT adds GATE-FAULT, and STOP-LOOP stands in
the own HALT. The order of gates and causes is the model's choice (notes/assumptions/14.md), and so is that a DRAWN goes
before GATE-FAULT joins the HALT (notes/assumptions/45.md); that the renewal timer
stops and the token goes its reading (notes/assumptions/42.md), and so is what is gone with a draw that is over
(notes/assumptions/21.md). -/
def Obligations.StopLoopOpensAtDraw : Prop :=
  ∀ s : State, s.straps.role = .draw → s.mode ≠ .starting → s.EdgeTo stopLoopInput false →
    let t := (loopOpenedAtDraw (s.takeEdge stopLoopInput false)).inform s
    exec .stopLoopOpens s = .next t ∧
      (∀ g, (s.gate g).state.inHand = true → s.ProvenClosed g → (t.gate g).state = .closed) ∧
      (∀ g, (s.gate g).state = .warning → ¬s.ProvenClosed g → (t.gate g).state = .fault .gateDrift) ∧
      (∀ g, (s.gate g).state.inHand = true → (s.gate g).state ≠ .warning → ¬s.ProvenClosed g →
        (t.gate g).state = .fault .loopOpen) ∧
      (∀ g, (s.gate g).state.inHand = false → t.gate g = s.gate g) ∧
      (∀ g, (s.gate g).state.inHand = true → (t.gate g).record = (s.gate g).record.map (fun r =>
        { r with
          outcome := some (decide (s.ProvenClosed g), s.time)
          endCause := if (s.gate g).state = .closing ∨ ((s.gate g).state = .warning ∧ ¬s.ProvenClosed g) then r.endCause
                      else some .stopLoop })) ∧
      (∀ g, (s.gate g).state.inHand = true → t.isPending .drawEnd = true ∧ t.drawn =
        if s.drawn.reported < s.drawn.cumulative then ⟨s.drawn.cumulative, s.drawn.cumulative, false⟩ else s.drawn) ∧
      (∀ g, (s.gate g).state.inHand = true → ¬s.ProvenClosed g → t.isPending .fault = true) ∧
      (∀ g, t.watch.windows.get g =
        if (s.gate g).state = .opened then ⟨⟨false, 0⟩, 0⟩ else s.watch.windows.get g) ∧
      t.watch.wetRest = (if ∃ g ∈ [Gate.a, Gate.b], (s.gate g).state.inHand = true ∧ (s.gate g).wetRestricted = true then
        ⟨true, s.prof.wetRest * 1000⟩ else s.watch.wetRest) ∧
      t.ownCauses.stopLoop = true ∧
      (∀ g, (s.gate g).state.inHand = true → ¬s.ProvenClosed g → t.ownCauses.gateFault = true) ∧
      t.conditioned stopLoopInput = some false ∧ t.mode = s.mode ∧ t.store = s.store ∧ t.peers = s.peers

/-- The outputs: in the safe state (STARTING, SAFE, or the conditioned stop loop open) every output is off but permit
lamp red at a TIP station; elsewhere each is driven as its sequencer commands. A stop loop that opens outside STARTING
leaves commands that agree with the safe state. The attention line is active while a kind is pending and enabled. -/
def Obligations.OutputsAndAttention : Prop :=
  (∀ s : State,
    let off (o : Fin 6) := s.drive o = false
    let safe := s.mode = .starting ∨ s.mode = .safe ∨ s.conditioned stopLoopInput = some false
    (safe → off 0 ∧ (s.drive 1 = true ↔ s.straps.role = .tip) ∧ off 2 ∧ off 3 ∧ off 4 ∧ off 5) ∧
    (¬safe → s.straps.role = .tip →
      (s.drive 0 = true ↔ ∃ load, s.tip.stage = .offered load) ∧
      (s.drive 1 = true ↔ ∀ load, s.tip.stage ≠ .offered load) ∧
      (s.drive 2 = true ↔ s.breaker.state = .returning ∨ ∃ token, s.breaker.state = .working token) ∧
      off 3 ∧ off 4 ∧ off 5) ∧
    (¬safe → s.straps.role = .draw →
      (s.drive 0 = true ↔ s.gates.a.state = .opening) ∧ (s.drive 1 = true ↔ s.gates.a.state = .closing) ∧
      (s.drive 2 = true ↔ s.gates.a.state = .warning) ∧
      (s.drive 3 = true ↔ s.gates.b.state = .opening) ∧ (s.drive 4 = true ↔ s.gates.b.state = .closing) ∧
      (s.drive 5 = true ↔ s.gates.b.state = .warning)) ∧
    (s.attention = true ↔ ∃ k : EventKind, s.isPending k = true ∧ s.port.enabledEvents.getLsbD k.bit = true)) ∧
  (∀ s t : State, s.TipSafe → s.mode ≠ .starting → s.EdgeTo stopLoopInput false → exec .stopLoopOpens s = .next t →
    ∀ out, t.drive out = t.command out)

/-! ## Readings -/

/-- SEED hands the depth over as a MANUAL reading, clamped to the chute depth. A ranging record is counted at the first
test it fails, the last raw reading telling why; one that passes is accepted with its depth, and goes out at once or
waits for the pacing timer, which hands a pending reading over and runs again, or stops. -/
def Obligations.ReadingsEnter : Prop :=
  ((∀ (depth : Word16) (s : State), s.TakesRequests →
    exec (.seed depth) s = .next (answerWith 15 (liveRefusal s) .accepted
      ((s.handOverSurface (min depth.toNat (chuteDepth s.prof.bands)) .manual).inform s) s)) ∧
  (∀ (distance : Word16) (quality : BitVec 4) (s : State),
    exec (.rangingRecord .malformed) s =
      .next { s with field := { s.field with malformed := min (s.field.malformed + 1) 65535 } } ∧
    (¬s.Live ∨ (∀ e, s.ownEntry = some e → e.sensor = false) →
      exec (.rangingRecord (.record distance quality)) s =
        .next { s with field := { s.field with ignored := min (s.field.ignored + 1) 65535 } }) ∧
    (∀ e, s.Live → s.ownEntry = some e → e.sensor = true →
      let raw (why : RejectReason) : RawReading := ⟨distance.toNat, quality.toNat, s.time, why⟩
      let depth := min (e.mountDepth + distance.toNat) (chuteDepth s.prof.bands)
      let taken : Field := { s.field with
        lastRaw := some (raw .none), lastAccepted := some ⟨depth, quality.toNat, s.time⟩ }
      (quality.toNat < s.prof.qMin →
        exec (.rangingRecord (.record distance quality)) s = .next { s with field := { s.field with
          rejectedQuality := min (s.field.rejectedQuality + 1) 65535, lastRaw := some (raw .quality) } }) ∧
      (s.prof.qMin ≤ quality.toNat → e.maxRange < distance.toNat →
        exec (.rangingRecord (.record distance quality)) s = .next { s with field := { s.field with
          rejectedRange := min (s.field.rejectedRange + 1) 65535, lastRaw := some (raw .range) } }) ∧
      (s.prof.qMin ≤ quality.toNat → distance.toNat ≤ e.maxRange → s.field.pacing.running = true →
        exec (.rangingRecord (.record distance quality)) s =
          .next { s with field := { taken with pendingReading := some (depth, quality.toNat) } }) ∧
      (s.prof.qMin ≤ quality.toNat → distance.toNat ≤ e.maxRange → s.field.pacing.running = false →
        exec (.rangingRecord (.record distance quality)) s =
          .next (State.inform (State.handOverSurface depth (.numeric quality.toNat)
            { s with field := { taken with pacing := ⟨true, s.prof.surfaceInterval * 1000⟩ } }) s))))) ∧
  (∀ s : State, s.field.pacing.running = true →
    (∀ depth quality, s.field.pendingReading = some (depth, quality) →
      exec .pacingTimerExpiry s = .next (State.inform (State.handOverSurface depth (.numeric quality)
        { s with field := { s.field with
          pendingReading := none, pacing := ⟨true, s.prof.surfaceInterval * 1000⟩ } }) s)) ∧
    (s.field.pendingReading = none →
      exec .pacingTimerExpiry s = .next { s with field := { s.field with pacing := ⟨false, 0⟩ } }))

/-- A reading at the column: an UNSEEDED model seeds from it (one DAMP layer, MODEL with SEEDED, the wet status), a
MANUAL one re-anchors, a numeric one re-anchors unless the ranging test holds it or the sender's standing HANGUP does;
the own one may raise or lift the own HANGUP, the lift with its frame, HOLD-CHANGE, HANGUP and no estimate left. -/
def Obligations.SurfaceTaken : Prop :=
  ∀ (sender depth : Nat) (s : State),
    let Δ : Int := (s.modelSurface : Int) - depth
    let note (q : Quality) (d : Disposition) (t : State) : State :=
      { t with column := { t.column with lastReading := some ⟨depth, q, sender, s.time, d⟩ } }
    let gap : Int := (volumeBelow s.prof.bands depth : Int) - s.columnVolume
    (∀ q, s.column.seeded = false →
      s.takeSurface sender depth q = note q .seeded (seededAt depth s)) ∧
    (s.column.seeded = true → s.takeSurface sender depth .manual = note .manual .reAnchored (reanchoredAt depth s)) ∧
    (∀ n, s.column.seeded = true → s.holdOf sender .hangup = none → Δ < s.prof.tHang →
      s.takeSurface sender depth (.numeric n) = note (.numeric n) .reAnchored (reanchoredAt depth s)) ∧
    (∀ n, s.column.seeded = true → s.holdOf sender .hangup = none → s.prof.tHang ≤ Δ → sender ≠ s.own →
      s.takeSurface sender depth (.numeric n) = note (.numeric n) .held s) ∧
    (∀ n, s.column.seeded = true → s.holdOf sender .hangup = none → s.prof.tHang ≤ Δ → sender = s.own →
      s.takeSurface sender depth (.numeric n) = State.mark .hangup (State.enterHold s.own (.ranging gap depth)
        { note (.numeric n) .held s with watch := { s.watch with gap := some ⟨gap, depth, s.time⟩ } })) ∧
    (∀ n h, s.column.seeded = true → s.holdOf sender .hangup = some h → s.prof.tTol ≤ Δ →
      (sender ≠ s.own ∨ h.body.isRanging = false) →
      s.takeSurface sender depth (.numeric n) = note (.numeric n) .held s) ∧
    (∀ n h, s.column.seeded = true → s.holdOf sender .hangup = some h → s.prof.tTol ≤ Δ → sender = s.own →
      h.body.isRanging = true →
      s.takeSurface sender depth (.numeric n) =
        { note (.numeric n) .held s with watch := { s.watch with gap := some ⟨gap, depth, s.time⟩ } }) ∧
    (∀ n h, s.column.seeded = true → s.holdOf sender .hangup = some h → Δ < s.prof.tTol →
      (sender ≠ s.own ∨ h.body.isRanging = false) →
      s.takeSurface sender depth (.numeric n) = note (.numeric n) .reAnchored (reanchoredAt depth s)) ∧
    (∀ n h, s.column.seeded = true → s.holdOf sender .hangup = some h → Δ < s.prof.tTol → sender = s.own →
      h.body.isRanging = true →
      s.takeSurface sender depth (.numeric n) =
        hangupLifted (note (.numeric n) .reAnchored (reanchoredAt depth s)))

/-! ## Arrivals -/

/-- An own arrival: the frame leaves the queue, the sequence advances, an isolated line is ACTIVE again; then holds,
DRAWN and STATE change no list, an OFFER is judged and decides the tip, a WITHDRAW and a TIPPED take the own
reservation, a TIPPED joins the column without catch-up, and a SURFACE is taken as a reading. -/
def Obligations.OwnArrivals : Prop :=
  ∀ (q : QueuedFrame) (s : State), s.line.queue.find? (·.onWire) = some q →
    (∀ body, q.frame = .holdSet body → exec (.holdSetArrival .own) s = .next ((ownArrived s).inform s)) ∧
    (∀ kind, q.frame = .holdLift kind → exec (.holdLiftArrival .own) s = .next ((ownArrived s).inform s)) ∧
    (∀ g c a b d, q.frame = .drawn g c a b d → exec (.drawnArrival .own) s = .next ((ownArrived s).inform s)) ∧
    (∀ p, q.frame = .state p → exec (.stateArrival .own) s = .next ((ownArrived s).inform s)) ∧
    (∀ cls v m, q.frame = .offer cls v m → exec (.offerArrival .own) s =
      .next ((((ownArrived s).judgeOffer s.own cls v).ownOfferJudged).inform s)) ∧
    (∀ cause, q.frame = .withdraw cause → exec (.withdrawArrival .own) s =
      .next ((reservationGone s.own (ownArrived s)).inform s)) ∧
    (∀ load g c, q.frame = .tipped load g c → exec (.tippedArrival .own) s =
      .next ((reservationGone s.own ((ownArrived s).addLayers [⟨load.volume, load.moisture, some s.own,
        load.oversize, load.estimated, load.unauthorised⟩])).inform s)) ∧
    (∀ depth x, q.frame = .surface depth x → exec (.surfaceArrival .own) s =
      .next (((ownArrived s).takeSurface s.own depth x).inform s))

/-- An OFFER is judged in line order: one out of range, or of no TIP station, is not taken; otherwise the sender's
entry leaves, and a new one stands at the end where the model is UNSEEDED or the room suffices. The own OFFER then
decides a REQUESTED tip: OFFERED with its timer where the entry stands, otherwise over with NO-ROOM and a WITHDRAW. -/
def Obligations.OffersJudged : Prop :=
  (∀ (station cls volume : Nat) (s : State),
    let u := reservationGone station s
    (s.roleOf station ≠ some .tip ∨ ¬(1 ≤ cls ∧ cls ≤ 6 ∧ 1000 ≤ volume ∧ volume ≤ 600000) →
      s.judgeOffer station cls volume = s) ∧
    (s.roleOf station = some .tip → 1 ≤ cls ∧ cls ≤ 6 ∧ 1000 ≤ volume ∧ volume ≤ 600000 →
      s.judgeOffer station cls volume =
        if s.column.seeded = false ∨ volume ≤
            volumeBelow s.prof.bands (s.prof.limitDepth station) - s.columnVolume - reservedVolume u.reservations then
          { u with reservations := u.reservations ++ [⟨station, cls, volume, s.time⟩] }
        else u)) ∧
  (∀ s : State,
    (∀ load, s.tip.stage = .requested load → (∃ r ∈ s.reservations, r.station = s.own) →
      s.ownOfferJudged =
        { s with tip := { s.tip with stage := .offered load, offerTimer := ⟨true, s.prof.offerTimeout * 1000⟩ } }) ∧
    (∀ load, s.tip.stage = .requested load → (∀ r ∈ s.reservations, r.station ≠ s.own) →
      s.ownOfferJudged = (tipOver .noRoom load s).handOver (.withdraw .noRoom)) ∧
    ((∀ load, s.tip.stage ≠ .requested load) → s.ownOfferJudged = s))

/-- The number test: nothing is taken while OFFLINE; the own number adds DUPLICATE to the own HALT, with LINE where it
is new; a number that is no peer's is a stranger, reported once. A frame of no defined kind goes to the peer table
alone and is counted; one that fails a receive check advances its counter alone. That the number test comes before the
kind, so that a frame of no defined kind under the own or a stranger's number is counted there alone, is the model's
reading (notes/assumptions/16.md). -/
def Obligations.NumberAndChecksTested : Prop :=
  (∀ (c : Instr) (h : Header) (s : State), receivedHeader c = some h →
    (s.line.state = .offline → exec c s = .next s) ∧
    (s.line.state ≠ .offline → s.mode ≠ .starting → h.station.toNat = s.own →
      exec c s = .next (State.inform (State.enterHold s.own (.halt { s.ownCauses with duplicate := true })
        (let t : State := { s with line := { s.line with counters := { s.line.counters with
            ownNumber := min (s.line.counters.ownNumber + 1) 65535 } } }
         if s.ownCauses.duplicate = true then t
         else State.mark .line { t with line := { t.line with lastReason := some .duplicate } })) s)) ∧
    (s.line.state ≠ .offline → h.station.toNat ≠ s.own → (∀ r ∈ s.peers.records, r.station ≠ h.station.toNat) →
      exec c s = .next
        (let t : State := { s with line := { s.line with counters := { s.line.counters with
            strangers := min (s.line.counters.strangers + 1) 65535 } } }
         if s.line.strangerReported = true then t
         else State.mark .line { t with line := { t.line with
           strangerReported := true, lastReason := some .stranger } }))) ∧
  (∀ (h : Header) (kind : BitVec 4) (e : ReceiveFault) (s : State),
    (s.HandedOn h → exec (.undefinedKindArrival h kind) s = .next (unsuited h s)) ∧
    (s.line.state = .offline → exec (.receiveError e) s = .next s) ∧
    (s.line.state ≠ .offline → exec (.receiveError e) s = .next { s with line := { s.line with
      counters := match e with
        | .length => { s.line.counters with lengthErrors := min (s.line.counters.lengthErrors + 1) 65535 }
        | .truncation => { s.line.counters with truncations := min (s.line.counters.truncations + 1) 65535 }
        | .crc => { s.line.counters with crcErrors := min (s.line.counters.crcErrors + 1) 65535 } } }))

/-- What every arrival from a peer does at the peer table: counted as received, its sequence and gap taken, the peer
PRESENT with a fresh silence timer, PEER-CHANGE where it was not or a gap shows; the other records stand. -/
def Obligations.PeerHeard : Prop :=
  ∀ (h : Header) (r : PeerRecord) (s : State),
    s.peers.records.find? (fun x => x.station == h.station.toNat) = some r →
    let gap := match r.lastSeq with
      | none => 0
      | some l => if h.seq.toNat = 0 ∨ h.seq.toNat = l then 0 else (h.seq.toNat + 256 - l - 1) % 256
    let t := peerHeard h s
    t.peers = { s.peers with records := s.peers.records.map (fun x => if x.station = h.station.toNat then
      { x with lastSeq := some h.seq.toNat, presence := .present, lastArrival := some s.time
               silence := ⟨true, 3 * s.prof.statePeriod⟩
               gapCount := min (x.gapCount + sequenceGap x.lastSeq h.seq.toNat) 255 } else x) } ∧
    t.line = { s.line with counters := { s.line.counters with
      received := min (s.line.counters.received + 1) 65535 } } ∧
    (t.isPending .peerChange = (s.isPending .peerChange || gap != 0 || r.presence != .present)) ∧
    t.column = s.column ∧ t.holds = s.holds ∧ t.reservations = s.reservations ∧ t.tip = s.tip

/-- A peer's HOLD-SET enters its entry of the kind, one that says nothing the list takes changes nothing there, and its
HOLD-LIFT takes the whole entry; in SAFE the hold list takes neither. -/
def Obligations.PeerHoldsTaken : Prop :=
  ∀ (h : Header) (p : HoldSetPayload) (kind : Byte) (s : State), s.HandedOn h →
    (s.mode = .safe →
      exec (.holdSetArrival (.received h p)) s = .next (peerHeard h s) ∧
      exec (.holdLiftArrival (.received h kind)) s = .next (peerHeard h s)) ∧
    (s.mode ≠ .safe →
      (∀ causes, causesOf causes ≠ Causes.none → exec (.holdSetArrival (.received h (.len2 1#8 causes))) s =
        .next (((peerHeard h s).enterHold h.station.toNat (.halt (causesOf causes))).inform s)) ∧
      exec (.holdSetArrival (.received h (.len1 2#8))) s =
        .next (((peerHeard h s).enterHold h.station.toNat .entry).inform s) ∧
      (∀ gap surface, exec (.holdSetArrival (.received h (.len8 3#8 1#8 gap surface))) s =
        .next (((peerHeard h s).enterHold h.station.toNat (.ranging gap.toInt surface.toNat)).inform s)) ∧
      (∀ gate, NamesGate gate → exec (.holdSetArrival (.received h (.len3 3#8 2#8 gate))) s =
        .next (((peerHeard h s).enterHold h.station.toNat (.starved (gateNamed gate))).inform s)) ∧
      (holdBodyOf p = none → exec (.holdSetArrival (.received h p)) s = .next (peerHeard h s)) ∧
      (∀ k, holdKindOf kind = some k → exec (.holdLiftArrival (.received h kind)) s =
        .next (((peerHeard h s).removeHold h.station.toNat k).inform s)) ∧
      (holdKindOf kind = none → exec (.holdLiftArrival (.received h kind)) s = .next (peerHeard h s)))

/-- A peer's OFFER is judged and its WITHDRAW takes its entry, whatever the cause; an OFFER from a DRAW station is not
handed on, and in SAFE the reservation list takes neither. -/
def Obligations.PeerOffersTaken : Prop :=
  ∀ (h : Header) (p : OfferPayload) (cause : Byte) (s : State), s.HandedOn h →
    (s.peerRole h.station.toNat = some .draw →
      exec (.offerArrival (.received h p)) s = .next (unsuited h s)) ∧
    (s.mode = .safe → s.peerRole h.station.toNat ≠ some .draw →
      exec (.offerArrival (.received h p)) s = .next (peerHeard h s)) ∧
    (s.mode = .safe → exec (.withdrawArrival (.received h cause)) s = .next (peerHeard h s)) ∧
    (s.mode ≠ .safe → s.peerRole h.station.toNat ≠ some .draw →
      exec (.offerArrival (.received h p)) s =
        .next (((peerHeard h s).judgeOffer h.station.toNat p.cls.toNat p.volume.toNat).inform s)) ∧
    (s.mode ≠ .safe → exec (.withdrawArrival (.received h cause)) s =
      .next ((reservationGone h.station.toNat (peerHeard h s)).inform s))

/-- A peer's TIPPED: its baseline advances, the missing volume and then the tip join the column, none of a duplicate,
and its reservation leaves. The DRAW peer's DRAWN: its gates and dribble flag are noted, its baseline advances, and
the increase is drawn from the column. A kind that the sender's role does not suit is counted alone, and in SAFE the
peer table alone takes either. -/
def Obligations.PeerTippedAndDrawnTaken : Prop :=
  ∀ (h : Header) (p : TippedPayload) (d : DrawnPayload) (s : State), s.HandedOn h →
    (s.peerRole h.station.toNat = some .draw →
      exec (.tippedArrival (.received h p)) s = .next (unsuited h s)) ∧
    (s.peerRole h.station.toNat = some .tip →
      exec (.drawnArrival (.received h d)) s = .next (unsuited h s)) ∧
    (s.mode = .safe → s.peerRole h.station.toNat ≠ some .draw →
      exec (.tippedArrival (.received h p)) s = .next (peerHeard h s)) ∧
    (s.mode = .safe → s.peerRole h.station.toNat ≠ some .tip →
      exec (.drawnArrival (.received h d)) s = .next (peerHeard h s)) ∧
    (s.mode ≠ .safe → s.peerRole h.station.toNat = some .tip →
      exec (.tippedArrival (.received h p)) s = .next (State.inform (reservationGone h.station.toNat (State.addLayers
        (layersOfTipped h.station.toNat p s) (withBaseline h.station.toNat
          (counterTaken h.station.toNat p.generation.toNat p.cumulative.toNat s).2 (peerHeard h s)))) s)) ∧
    (s.mode ≠ .safe → s.peerRole h.station.toNat = some .draw →
      exec (.drawnArrival (.received h d)) s = .next (State.inform (State.drawIncrement
        (counterTaken h.station.toNat d.generation.toNat d.cumulative.toNat s).1
        (withBaseline h.station.toNat (counterTaken h.station.toNat d.generation.toNat d.cumulative.toNat s).2
          (State.updatePeer h.station.toNat
            (fun r => { r with lastDraw := some ⟨d.flags.getLsbD 0, d.flags.getLsbD 1, d.flags.getLsbD 2⟩ })
            (peerHeard h s)))) s))

/-- A peer's SURFACE is taken as a reading, unless its digest differs, its quality means nothing, or the station is in
SAFE. -/
def Obligations.PeerSurfaceTaken : Prop :=
  ∀ (h : Header) (p : SurfacePayload) (s : State), s.HandedOn h →
    (s.mode = .safe ∨ s.mismatched h.station.toNat = true ∨ qualityOf p.quality = none →
      exec (.surfaceArrival (.received h p)) s = .next (peerHeard h s)) ∧
    (s.mode ≠ .safe → s.mismatched h.station.toNat = false → p.quality.toNat = 128 →
      exec (.surfaceArrival (.received h p)) s =
        .next (((peerHeard h s).takeSurface h.station.toNat p.depth.toNat .manual).inform s)) ∧
    (s.mode ≠ .safe → s.mismatched h.station.toNat = false → 1 ≤ p.quality.toNat → p.quality.toNat ≤ 15 →
      exec (.surfaceArrival (.received h p)) s =
        .next (((peerHeard h s).takeSurface h.station.toNat p.depth.toNat (.numeric p.quality.toNat)).inform s))

/-- A peer's STATE: last STATE and mismatch flag, the baseline, the seed or the catch-up with the wet status told to the
gates, the holds made to match, a TIP peer's reservation made to match, and the end of the roll-call when every peer
has answered. In SAFE the peer table alone takes it. The order of these parts is the model's reading
(notes/assumptions/13.md), and that a running draw is capped before an end cause is taken is another
(notes/assumptions/20.md); that an entry's effects take gate A first is its choice (notes/assumptions/44.md). -/
def Obligations.PeerStateTaken : Prop :=
  ∀ (h : Header) (p : StatePayload) (s : State), s.HandedOn h →
    let j := h.station.toNat
    let differs := !(p.digestPresent && s.profile.isSome && p.digest.toNat == s.prof.digest)
    let noted : State := State.updatePeer j (fun r => { r with lastState := some (p, s.time), mismatch := differs })
      (peerHeard h s)
    let t := if s.mismatched j = differs then noted else noted.mark .profile
    let rise := counterTaken j p.generation.toNat p.counter.toNat s
    let u := withBaseline j rise.2 t
    let column (caughtUp : State) : State :=
      if s.column.seeded = false ∧ p.modelSeeded = true ∧ differs = false then seededFrom p u else caughtUp
    let held (v : State) : State := holdsMatched j p (wetTold t v)
    let answered (v : State) : State :=
      if v.mode = .listening ∧ ∀ r ∈ v.peers.records, r.lastState ≠ none then
        { v with mode := .ready, peers := { v.peers with rollCall := ⟨false, 0⟩ } }
      else v
    (s.mode = .safe → exec (.stateArrival (.received h p)) s = .next t) ∧
    (s.mode ≠ .safe → s.peerRole j = some .tip →
      exec (.stateArrival (.received h p)) s = .next ((answered (reservationMatched j p
        (held (column (u.addLayers [⟨rise.1, .unknown, some j, false, true, false⟩]))))).inform s)) ∧
    (s.mode ≠ .safe → s.peerRole j = some .draw →
      exec (.stateArrival (.received h p)) s = .next ((answered
        (held (column (u.drawIncrement rise.1)))).inform s))

/-! ## The transmit queue -/

/-- A frame handed to an ACTIVE line: a STATE, DRAWN or SURFACE replaces one of its kind in its place, or waits for the
one on the wire; any other joins at the end; at a full queue the newest frame of the worst class gives way to a better
one, and otherwise the new frame is dropped, each drop counted and told. That a replacement's frame has not begun is
the model's choice (notes/assumptions/15.md). -/
def Obligations.QueueTakesFrame : Prop :=
  ∀ (f : Frame) (l : Line),
    (∀ before q after, f.kind.coalesces = true → l.queue = before ++ q :: after → q.frame.kind = f.kind →
      (∀ x ∈ before, x.frame.kind ≠ f.kind) →
      (q.onWire = false →
        l.offer f = ({ l with queue := before ++ { q with frame := f, started := false } :: after }, none)) ∧
      (q.onWire = true →
        l.offer f = ({ l with waiting := l.waiting.filter (fun x => x.kind != f.kind) ++ [f] }, none))) ∧
    ((f.kind.coalesces = false ∨ ∀ x ∈ l.queue, x.frame.kind ≠ f.kind) →
      (l.queue.length < 8 → l.offer f = ({ l with queue := l.queue ++ [⟨f, 0, false, false⟩] }, none)) ∧
      (∀ before q after, 8 ≤ l.queue.length → l.queue = before ++ q :: after → q.onWire = false →
        f.cls < q.frame.cls → (∀ x ∈ l.queue, x.onWire = false → x.frame.cls ≤ q.frame.cls) →
        (∀ x ∈ after, x.onWire = true ∨ x.frame.cls < q.frame.cls) →
        l.offer f = ({ l with
          queue := before ++ after ++ [⟨f, 0, false, false⟩],
          counters := { l.counters with drops := min (l.counters.drops + 1) 65535 } }, some q.frame)) ∧
      (8 ≤ l.queue.length → (∀ x ∈ l.queue, x.onWire = true ∨ x.frame.cls ≤ f.cls) →
        l.offer f = ({ l with counters := { l.counters with drops := min (l.counters.drops + 1) 65535 } }, some f)))

/-- What the loss of a frame means to its producer, and what becomes of a frame by the line state: OFFLINE takes none;
ISOLATED takes a SURFACE at once as the station's own, and treats every other kind but STATE as lost, the drop counter
standing by the model's reading (notes/assumptions/17.md). -/
def Obligations.FramesLost : Prop :=
  ∀ s : State,
    (∀ cls v m load, s.tip.stage = .requested load →
      s.frameLost (.offer cls v m) = tipOver (.withdrawn .line) load s) ∧
    (∀ cls v m, (∀ load, s.tip.stage ≠ .requested load) → s.frameLost (.offer cls v m) = s) ∧
    (∀ cause, s.frameLost (.withdraw cause) = reservationGone s.own s) ∧
    (∀ load g c, s.frameLost (.tipped load g c) =
      (reservationGone s.own s).addLayers [⟨load.volume, .unknown, some s.own, false, true, false⟩]) ∧
    (∀ b, s.frameLost (.holdSet b) = s) ∧ (∀ k, s.frameLost (.holdLift k) = s) ∧
    (∀ g c a b d, s.frameLost (.drawn g c a b d) = s) ∧ (∀ d q, s.frameLost (.surface d q) = s) ∧
    (∀ p, s.frameLost (.state p) = s) ∧
    (∀ f, s.line.state = .offline → s.handOver f = s) ∧
    (∀ f, s.line.state = .isolated → f.kind ≠ .state → f.kind ≠ .surface → s.handOver f = s.frameLost f) ∧
    (∀ depth q, s.line.state = .isolated → s.handOverSurface depth q = s.takeSurface s.own depth q) ∧
    (∀ depth q, s.line.state ≠ .isolated → s.handOverSurface depth q = s.handOver (.surface depth q)) ∧
    (∀ f, s.line.state = .active ∨ (s.line.state = .isolated ∧ f.kind = .state) →
      s.handOver f = match (s.line.offer f).2 with
        | none => { s with line := (s.line.offer f).1 }
        | some lost => State.frameLost lost { s with line := (s.line.offer f).1 })

/-- At an idle line the oldest frame of the best class goes on the wire with the next sequence, and while ISOLATED the
STATE whose one attempt is due; a STATE is formed as the station then stands, and carries its holds, its reservation,
its sequencers, its column and its counter. Arbitration lost, the frame keeps its place and count. A line that sends,
has nothing to send, or is ISOLATED with no attempt due begins nothing. -/
def Obligations.AttemptBeginsAndYields : Prop :=
  (∀ (before after : List QueuedFrame) (q : QueuedFrame) (s : State),
    s.NextToSend before q after ∨ s.RetryToSend before q after →
    exec .transmitAttemptStart s = .next (attemptBegun before q after s)) ∧
  (∀ s : State, s.HoldsKept → s.OwnStateCarries s.statePayload) ∧
  (∀ s : State, s.line.sending = true ∨ s.line.queue = [] ∨ s.line.state = .offline ∨
      (s.line.state = .isolated ∧ (s.line.retryDue = false ∨ ∀ q ∈ s.line.queue, q.frame.kind ≠ .state)) →
    exec .transmitAttemptStart s = .next s) ∧
  (∀ s : State, s.line.sending = true →
    exec .arbitrationLoss s = .next (State.inform (State.settleWaiting { s with line := { s.line with
      queue := s.line.queue.map (fun x => { x with onWire := false }), wire := none,
      counters := { s.line.counters with
        arbitrationLosses := min (s.line.counters.arbitrationLosses + 1) 65535 } } }) s))

/-- A transmit error, or the wait limit, charges the frame one failed attempt; at the sixteenth the frame is discarded,
and at the third discard in a row the line is ISOLATED. An isolated line charges nothing and starts its retry timer
again, whose expiry makes one attempt due. As an attempt ends, a waiting replacement takes the place of the frame of
its kind that still stands, or joins the queue where none does; its cleared started flag is the model's choice
(notes/assumptions/15.md). -/
def Obligations.AttemptFails : Prop :=
  (∀ (q : QueuedFrame) (s : State), s.line.queue.find? (·.onWire) = some q →
    exec .transmitError s = .next (State.inform
      (if s.line.state = .isolated then retryFailed s else attemptFailed (·.onWire) q s) s)) ∧
  (∀ (before after : List QueuedFrame) (q : QueuedFrame) (s : State), s.NextToSend before q after →
    exec .waitLimit s = .next (State.inform (attemptFailed s.line.sendable q s) s)) ∧
  (∀ (before after : List QueuedFrame) (q : QueuedFrame) (s : State), s.RetryToSend before q after →
    exec .waitLimit s = .next (State.inform (retryFailed s) s)) ∧
  (∀ s : State, s.line.sending = true ∨ s.line.queue = [] ∨
      (s.line.state = .isolated ∧ (s.line.retryDue = false ∨ ∀ q ∈ s.line.queue, q.frame.kind ≠ .state)) →
    exec .waitLimit s = .next s) ∧
  (∀ s : State, s.line.state = .isolated → s.line.retryTimer.running = true →
    exec .isolationRetryExpiry s =
      .next { s with line := { s.line with retryTimer := ⟨false, 0⟩, retryDue := true } }) ∧
  (∀ s : State,
    (s.line.waiting = [] → s.settleWaiting = s) ∧
    (∀ f before q after, s.line.state = .active → s.line.waiting = [f] → f.kind.coalesces = true →
      s.line.queue = before ++ q :: after → q.frame.kind = f.kind → q.onWire = false →
      (∀ x ∈ before, x.frame.kind ≠ f.kind) →
      s.settleWaiting = { s with line := { s.line with
        waiting := [], queue := before ++ { q with frame := f, started := false } :: after } }) ∧
    (∀ f, s.line.state = .active → s.line.waiting = [f] → (∀ x ∈ s.line.queue, x.frame.kind ≠ f.kind) →
      s.line.queue.length < 8 →
      s.settleWaiting = { s with line := { s.line with
        waiting := [], queue := s.line.queue ++ [⟨f, 0, false, false⟩] } }))

/-- The entry into ISOLATED: only STATE stays in the queue, with no attempt charged; the discards in a row end, the
retry timer starts at 10 s; no tip is REQUESTED or OFFERED any more; LINE is marked with reason ISOLATED. -/
def Obligations.IsolationEntered : Prop :=
  ∀ s : State,
    let t := s.enterIsolated
    t.line.state = .isolated ∧ (∀ q ∈ t.line.queue, q.frame.kind = .state ∧ q.attempts = 0) ∧
    (∀ f ∈ t.line.waiting, f.kind = .state) ∧
    t.line.consecutive = 0 ∧ t.line.retryTimer = ⟨true, 10000⟩ ∧ t.line.retryDue = false ∧
    t.line.lastReason = some .isolated ∧ t.isPending .line = true ∧ ¬t.TipOpen ∧
    t.mode = s.mode ∧ t.peers = s.peers ∧ t.store = s.store ∧ t.field = s.field

/-! ## The peer table's timers -/

/-- A silence timer makes its peer SILENT without a last sequence; the roll-call timer makes every UNHEARD record
SILENT and the station READY; the STATE timer hands a STATE over and runs again. -/
def Obligations.PeerTimersExpire : Prop :=
  ∀ (n : BitVec 4) (s : State),
    (∀ r, s.peers.records.find? (fun r => r.station == n.toNat) = some r → r.silence.running = true →
      exec (.silenceTimerExpiry n) s = .next (State.mark .peerChange { s with peers := { s.peers with
        records := s.peers.records.map (fun r => if r.station = n.toNat then
          { r with presence := .silent, lastSeq := none, silence := ⟨false, 0⟩ } else r) } })) ∧
    (s.mode = .listening → s.peers.rollCall.running = true →
      exec .rollCallTimerExpiry s =
        .next (let t : State := { s with
                 mode := .ready
                 peers := { s.peers with
                   rollCall := ⟨false, 0⟩
                   records := s.peers.records.map (fun r =>
                     if r.presence = .unheard then { r with presence := .silent } else r) } }
               if ∃ r ∈ s.peers.records, r.presence = .unheard then t.mark .peerChange else t)) ∧
    (s.peers.stateTimer.running = true →
      exec .stateTimerExpiry s = .next (State.inform (State.handOver (.state none)
        { s with peers := { s.peers with stateTimer := ⟨true, s.prof.statePeriod⟩ } }) s))

/-! ## Inputs, restarts and STARTING -/

/-- A spare input's edge changes that input alone. In STARTING an input takes its first conditioned state, inactive
where it is forced; an open stop loop enters the restart HALT; the park input gives the breaker its restart state; and
with the last input the gates take theirs and the port's buffers and malformed counter are emptied. That the command of
the last input carries all this, the wet status among it, is the model's choice (notes/assumptions/7.md), and that a
restart state of FAULT marks no event is its reading (notes/assumptions/32.md). -/
def Obligations.InputsConditioned : Prop :=
  ∀ (i : InputNo) (active raw : Bool) (s : State),
    (inputFunction s.straps.role i = .spare → s.EdgeTo i active →
      exec (.spareInputEdge i active) s = .next (s.takeEdge i active)) ∧
    (s.mode = .starting → s.conditioned i = none →
      exec (.inputFirstConditioned i active) s =
        .next (firstStateTaken i ⟨active != s.inverted i, some active, false⟩ s) ∧
      exec (.inputFirstStateForced i raw) s = .next (firstStateTaken i ⟨raw, some false, true⟩ s))

/-- Either restart: the straps are latched, a COLD one advances the count generation, the image is checked, the event
summary shows RESTART and a clamp, holds, reservations and the queue are gone, and every sequencer is at its restart
value; the own counters are kept by a WARM restart alone. The buffers and the malformed counter stand until the inputs
are conditioned. That the blocks whose restart values need no input have them at once is the model's choice
(notes/assumptions/7.md); that a write cut short keeps its image beside a flag is its reading
(notes/assumptions/10.md), and so is which failed check marks PROFILE (notes/assumptions/36.md). -/
def Obligations.Restarts : Prop :=
  ∀ (cold : Bool) (pins : StrapPins) (s : State),
    ∃ t, exec (if cold = true then .coldRestart pins else .warmRestart pins) s = .next t ∧
      t.mode = .starting ∧ t.time = 0 ∧ t.blocksStarted = false ∧
      t.straps.station = (if pins.stn0 = true then 1 else 0) + (if pins.stn1 = true then 2 else 0) +
        (if pins.stn2 = true then 4 else 0) + 1 ∧
      t.straps.role = (if pins.role = true then .draw else .tip) ∧
      t.straps.rate = (if pins.rate0 = true ∧ pins.rate1 = false then 20
        else if pins.rate0 = false ∧ pins.rate1 = true then 50 else 10) ∧
      t.store.generation = (if cold = true then (s.store.generation + 1) % 256 else s.store.generation) ∧
      t.store.image = s.store.image ∧ t.store.write = .idle ∧
      t.store.torn = (s.store.torn || decide (s.store.write = .writing)) ∧
      (imageFailure t.store.image t.store.torn t.straps = none → t.profile = some (imageProfile t.store.image) ∧
        t.profileResult = (if clampCount t.store.image = 0 then .valid
          else .validClamped (clampCount t.store.image))) ∧
      (∀ why, imageFailure t.store.image t.store.torn t.straps = some why →
        t.profile = none ∧ t.profileResult = .invalid why) ∧
      t.holds = [] ∧ t.reservations = [] ∧ t.watch = ⟨.clear, none, ⟨⟨⟨false, 0⟩, 0⟩, ⟨⟨false, 0⟩, 0⟩⟩, ⟨false, 0⟩⟩ ∧
      t.tip = ⟨.idle, ⟨false, 0⟩, ⟨false, 0⟩, if cold = true then 0 else s.tip.cumulative, none⟩ ∧
      t.drawn.cumulative = (if cold = true then 0 else s.drawn.cumulative) ∧
      t.drawn.reported = t.drawn.cumulative ∧ t.drawn.dribble = false ∧
      t.line = ⟨.offline, [], [], none, 0, 0, ⟨false, 0⟩, false, false, none,
        ⟨0, 0, 0, 0, 0, 0, 0, 0, 0, 0, 0, 0⟩⟩ ∧
      (∀ i : InputNo, t.conditioned i = none) ∧ t.field.pulses = ⟨0, 0⟩ ∧
      t.port = ⟨if ProfileMarked (imageFailure t.store.image t.store.torn t.straps) t.store.image then 0x801#12
          else 1#12, 0xFFF#12, s.port.malformed, s.port.report, s.port.buffer, none, false, true⟩

/-- The five checks of a stored image in their order, its profile value by value with each value out of its range at the
nearest limit, and the number of values clamped. That a declared length below 4 fails the first check is the model's
reading (notes/assumptions/10.md), and so is that the count takes every station's entry (notes/assumptions/19.md). -/
def Obligations.ImageChecked : Prop :=
  ∀ (m : Memory) (torn : Bool) (straps : Straps),
    imageFailure m torn straps =
      (if StoreFails torn m then some .storeCheck
      else if GeometryFails m then some .geometry
      else if StationTableFails straps m then some .stationTable
      else if LimitDepthFails m then some .limitDepth
      else if ThresholdsFail m then some .thresholds
      else none) ∧
    imageProfile m = profileAt m ∧
    clampCount m = ((rangedValues m).filter (fun x => decide (x.1 < x.2.1 ∨ x.2.2 < x.1))).length

/-- What a restart leaves of the column and of the baselines: a COLD one nothing; a WARM one keeps the list under the
same bands, and a peer's baseline under the same number and role, and no other. -/
def Obligations.RestartKeeps : Prop :=
  ∀ (pins : StrapPins) (s : State),
    (∃ t, exec (.coldRestart pins) s = .next t ∧
      t.column = ⟨false, [], 0, 0, 0, 0, 0, 0, 0, none, none⟩ ∧ ∀ r ∈ t.peers.records, r.baseline = none) ∧
    (∃ t, exec (.warmRestart pins) s = .next t ∧
      t.column.spillVolume = 0 ∧ t.column.driftCount = 0 ∧ t.column.lastReading = none ∧
      (∀ old new, s.profile = some old → t.profile = some new → old.bands = new.bands →
        t.column.segments = s.column.segments ∧ t.column.seeded = s.column.seeded) ∧
      (∀ old new, s.profile = some old → t.profile = some new → old.bands ≠ new.bands →
        t.column.segments = [] ∧ t.column.seeded = false) ∧
      (∀ new, t.profile = some new →
        t.column.remainder = if s.column.remainder < new.density then s.column.remainder else 0) ∧
      (t.profile = none → t.column = ⟨false, [], 0, 0, 0, 0, 0, 0, 0, none, none⟩ ∧
        ∀ r ∈ t.peers.records, r.role = none ∧ r.baseline = none) ∧
      (∀ new, t.profile = some new →
        (∀ e ∈ new.stations, 1 ≤ e.number → e.number ≤ 8 → e.number ≠ t.own →
          ∃ r ∈ t.peers.records, r.station = e.number) ∧
        ∀ r ∈ t.peers.records,
          r.role ≠ none ∧ r.presence = .unheard ∧
          (∀ x, s.peers.records.find? (fun x => x.station == r.station) = some x → x.role = r.role →
            r.baseline = x.baseline) ∧
          (∀ x, s.peers.records.find? (fun x => x.station == r.station) = some x → x.role ≠ r.role →
            r.baseline = none) ∧
          ((∀ x ∈ s.peers.records, x.station ≠ r.station) → r.baseline = none)))

/-- The departure from STARTING: LISTENING with a profile in force, otherwise SAFE; the restart HALT stands with
since 0, the line is ACTIVE with a STATE handed over, the STATE timer runs, and in LISTENING the roll-call. -/
def Obligations.LeavesStarting : Prop :=
  ∀ s : State, s.mode = .starting → s.blocksStarted = true → s.line.queue = [] →
    exec .leaveStarting s = .next { s with
      mode := if s.profile = none then .safe else .listening
      holds := s.holds ++ [⟨s.own, 0, .halt s.restartCauses⟩]
      line := { s.line with state := .active, queue := [⟨.state none, 0, false, false⟩] }
      peers := { s.peers with
        stateTimer := ⟨true, s.prof.statePeriod⟩
        rollCall := if s.profile = none then s.peers.rollCall else ⟨true, 5 * s.prof.statePeriod⟩ } }

/-! ## The panel port -/

/-- STATUS is answered in every mode with the items of the ten blocks from the one named on, or from the first where
none is named: whole items, as many as the answer holds, each with its value as the station stands. The coding of
items of several figures, and of names that chapter 12 gives no code, is the model's choice
(notes/assumptions/18.md), the item of a settle timer that the breaker stopped its reading (notes/assumptions/31.md).
An item past the last of its block goes on with the next block, and one past the last of block 10 gets an empty run
with no closing item: the model's choice too (notes/assumptions/34.md). REPORT takes a snapshot and gives part 1, REPORT-NEXT the next part, then END, and is refused
with nothing to give. None of them changes anything but the answer and the report buffer. -/
def Obligations.StatusAndReportsAnswered : Prop :=
  ∀ s : State, s.port.restartPending = false →
    let given (code : Nat) (b : AnswerBody) (r : Option ReportBuffer) : State :=
      { s with port := { s.port with report := r, answer := some ⟨code, b⟩ } }
    (∀ first : Option (Byte × Byte),
      let block := (first.map (fun x => x.1.toNat)).getD 1
      let item := (first.map (fun x => x.2.toNat)).getD 1
      1 ≤ block → block ≤ 10 → 1 ≤ item → s.HoldsKept → s.line.queue.length ≤ 8 →
      ∃ items, exec (.status first) s = .next (given 16 (.status items) s.port.report) ∧
        RunOf ((statusShown s).filter (fun x => block < x.block ∨ (x.block = block ∧ item ≤ x.item))) items) ∧
    (s.mode ≠ .starting →
      exec (.report 1#8) s = .next (
        let x : Snapshot := .column ⟨s.column.seeded, s.columnVolume, s.modelSurface, s.zone, s.wetZone, s.column⟩
          s.column.segments
        given 17 (.part x 1 x.parts) (some ⟨x, 2⟩)) ∧
      exec (.report 2#8) s = .next (
        given 17 (.part (.holds s.holds) 1 (max 1 ((s.holds.length + 3) / 4))) (some ⟨.holds s.holds, 2⟩)) ∧
      exec (.report 3#8) s = .next (
        let x : Snapshot := .peers (s.peers.records.map (fun r => (r, r.lastArrival.map (fun t => s.time - t))))
        given 17 (.part x 1 (max 1 ((s.peers.records.length + 1) / 2))) (some ⟨x, 2⟩)) ∧
      exec (.report 4#8) s = .next (
        given 17 (.part (.reservations s.reservations) 1 (max 1 ((s.reservations.length + 3) / 4)))
          (some ⟨.reservations s.reservations, 2⟩)) ∧
      (s.port.report = none → exec .reportNext s = .next (given 18 (.refused .notActive) none)) ∧
      (∀ b, s.port.report = some b → b.next ≤ b.snapshot.parts →
        exec .reportNext s = .next (given 18 (.part b.snapshot b.next b.snapshot.parts)
          (some { b with next := b.next + 1 }))) ∧
      (∀ b, s.port.report = some b → b.snapshot.parts < b.next →
        exec .reportNext s = .next (given 18 (.endOfReport b.snapshot b.snapshot.parts) none)))

/-- EVENTS gives both sets, EVENT-ACK clears the pending kinds named and answers what remains, EVENT-ENABLE replaces
the enables. A malformed message is counted and not answered; a message that names no request, or no report kind, is
refused with BAD-REQUEST. -/
def Obligations.EventsAndMessagesAnswered : Prop :=
  ∀ (kinds : Word16) (c k : Byte) (s : State), s.TakesRequests →
    let given (code : Nat) (b : AnswerBody) (p : Port) : State := { s with port := { p with answer := some ⟨code, b⟩ } }
    let left : BitVec 12 := s.port.pendingEvents &&& ~~~ (kinds.setWidth 12)
    exec .events s = .next (given 19 (.events s.port.pendingEvents s.port.enabledEvents) s.port) ∧
    exec (.eventAck kinds) s = .next (given 20 (.acceptedEvents left) { s.port with pendingEvents := left }) ∧
    exec (.eventEnable kinds) s = .next (given 21 .accepted { s.port with enabledEvents := kinds.setWidth 12 }) ∧
    exec .malformedMessage s =
      .next { s with port := { s.port with malformed := min (s.port.malformed + 1) 65535, answer := none } } ∧
    exec (.unknownRequest (.code c)) s = .next (given c.toNat (.refused .badRequest) s.port) ∧
    exec (.unknownRequest (.reportKind k)) s = .next (given 17 (.refused .badRequest) s.port)

/-- PROFILE-LOAD writes its bytes into the load buffer at its offset and nowhere else; PROFILE-COMMIT starts the store
write; the write ends in DONE or FAILED with PROFILE marked, the profile in force standing; RESTART is accepted in
either role and under any hold, and the port then takes no further request. -/
def Obligations.ProfileRequestsAnswered : Prop :=
  ∀ (offset : Word16) (bytes : List Byte) (s : State),
    (s.TakesRequests → 1 ≤ bytes.length → bytes.length ≤ 32 → s.port.buffer.wf = true → ∃ buffer : Memory,
      exec (.profileLoad offset bytes) s = .next (answerWith 22 (profileLoadRefusal offset bytes s) .accepted
        { s with port := { s.port with buffer := buffer } } s) ∧
      (∀ i < bytes.length, buffer.read (offset.toNat + i) = bytes.getD i 0#8) ∧
      (∀ a, a < offset.toNat ∨ offset.toNat + bytes.length ≤ a → buffer.read a = s.port.buffer.read a)) ∧
    (s.TakesRequests →
      exec .profileCommit s = .next (answerWith 23 (profileCommitRefusal s) .accepted
        { s with store := { s.store with write := .writing } } s) ∧
      exec .restart s = .next (answerWith 24 none .accepted
        { s with port := { s.port with restartPending := true } } s)) ∧
    (s.store.write = .writing →
      exec (.storeWriteEnd true) s = .next (State.mark .profile { s with store := { s.store with
        image := s.port.buffer, torn := false
        write := if storeCheckFails s.port.buffer = true then .failed else .done } }) ∧
      exec (.storeWriteEnd false) s = .next (State.mark .profile
        { s with store := { s.store with torn := true, write := .failed } }))

/-! ## Messages and frames -/

/-- Every request of the panel, written as its message, is read back as itself. -/
def Obligations.MessagesRoundTrip : Prop :=
  ∀ (i : Instr) (message : List Byte), i.wellFormed = true → encodeMessage i = some message →
    decodeMessage message = i

/-- Every received arrival of a defined kind, written as its frame, is read back as itself, with every field; and what a
peer takes from the bytes this station sends is what the frame says. -/
def Obligations.FramesRoundTrip : Prop :=
  (∀ (i : Instr) (frame : List Byte), encodeFrame i = some frame → decodeFrame frame = i) ∧
  (∀ (f : Frame) (station seq : Nat), f.InRange → station < 16 → seq < 256 →
    ReadAs ⟨BitVec.ofNat 2 f.cls, BitVec.ofNat 4 station, BitVec.ofNat 8 seq⟩ (decodeFrame (f.bytes station seq)) f)

/-- Words written out from the layouts of 12: a BREAK-RENEW, a WITHDRAW frame, a ranging record, and one whose start
byte cuts another short; and the check values of the two CRCs. -/
def Obligations.WordsRead : Prop :=
  crc16 [0x31#8, 0x32#8, 0x33#8, 0x34#8, 0x35#8, 0x36#8, 0x37#8, 0x38#8, 0x39#8] = 0x29B1#16 ∧
  crc32 [0x31#8, 0x32#8, 0x33#8, 0x34#8, 0x35#8, 0x36#8, 0x37#8, 0x38#8, 0x39#8] = 0xCBF43926#32 ∧
  (∀ token : Byte, decodeMessage ([0x05#8, 0x04#8, token] ++ bytes2 (crc16 [0x05#8, 0x04#8, token])) =
    .breakRenew token) ∧
  (∀ cause seq : Byte, decodeFrame ([0x49#8, 0x01#8, seq, cause] ++ bytes2 (crc16 [0x49#8, 0x01#8, seq, cause])) =
    .withdrawArrival (.received ⟨1#2, 2#4, seq⟩ cause)) ∧
  decodeRanging [0xA5#8, 0x27#8, 0x92#8, 0x09#8, 0xC2#8] = .record 0x2792#16 9#4 ∧
  rangingRecords [] [0xA5#8, 0x27#8, 0xA5#8, 0x27#8, 0x92#8, 0x09#8, 0xC2#8] = [.malformed, .record 0x2792#16 9#4]

/-! ## Geometry and column -/

/-- Volume and surface are inverse: a cumulative capacity puts the surface at its band's top, a reading re-anchored
gives itself back as the surface, and a volume's surface covers the volume by less than the area of its band. -/
def Obligations.VolumeAndSurfaceInverse : Prop :=
  ∀ bands : List Band, (∀ b ∈ bands, 1 ≤ b.height ∧ 1 ≤ b.area) →
    (∀ k, k < bands.length → surfaceDepth bands (cumulativeCapacity bands k) = topDepth bands k) ∧
    (∀ x, x ≤ chuteDepth bands → surfaceDepth bands (volumeBelow bands x) = x) ∧
    volumeBelow bands (surfaceDepth bands 0) = 0 ∧
    (∀ v, 0 < v → v ≤ passCapacity bands →
      v ≤ volumeBelow bands (surfaceDepth bands v) ∧
      ∃ k b, bandOf bands (surfaceDepth bands v) = some k ∧ bands[k - 1]? = some b ∧
        volumeBelow bands (surfaceDepth bands v) < v + b.area)

/-- The drawn volume of a mass and the remainder it leaves; however a total mass is split into increments, the same
volume goes and the same remainder stays. A SEEDED column takes the volume from its bottom and the remainder together
and evaluates the wet status; what it lacks is underrun, counted and told by MODEL; an increment of 0 kg reaches no
column. A removal from the bottom takes whole segments and reduces the last one touched, which keeps its fields. -/
def Obligations.DrawnVolumeIgnoresSplit : Prop :=
  (∀ (density remainder : Nat) (masses : List Nat), 1 ≤ density → remainder < density →
    (∀ m, drawnVolume density remainder m = ((m * 10000 + remainder) / density, (m * 10000 + remainder) % density)) ∧
    drawnVolume density remainder 0 = (0, remainder) ∧
    masses.foldl (fun (x : Nat × Nat) m => (x.1 + (drawnVolume density x.2 m).1, (drawnVolume density x.2 m).2))
      (0, remainder) = drawnVolume density remainder masses.sum) ∧
  (∀ (mass : Nat) (s : State),
    s.drawIncrement 0 = s ∧ (s.column.seeded = false → s.drawIncrement mass = s) ∧
    (s.column.seeded = true → mass ≠ 0 → s.drawIncrement mass = massDrawn mass s)) ∧
  (∀ (gone rest : List Segment) (g : Segment) (v : Nat),
    (totalVolume (gone ++ g :: rest) ≤ v → takeVolume (gone ++ g :: rest) v = []) ∧
    (totalVolume gone ≤ v → v < totalVolume gone + g.volume →
      takeVolume (gone ++ g :: rest) v = { g with volume := g.volume - (v - totalVolume gone) } :: rest))

/-- What goes into the column and what comes out adds up: layers and their spill, a draw and its underrun, a re-anchor
at its target; and a merge of the two bottom segments changes no volume and lowers no wet volume. A change is taken
whole: layers join one after the other, each with its spill, counted and told by one MODEL event; a re-anchor reduces
or grows the top, drift counted and told from T_tol on; each evaluates the wet status, once where it alters the list
(notes/assumptions/30.md). -/
def Obligations.ColumnVolumesAddUp : Prop :=
  (∀ (capacity : Nat) (layers : List Segment) (c : Column), totalVolume c.segments ≤ capacity →
    totalVolume (Column.layers capacity layers c).1.segments + (Column.layers capacity layers c).2 =
      totalVolume c.segments + totalVolume layers ∧
    totalVolume (Column.layers capacity layers c).1.segments ≤ capacity) ∧
  (∀ (density mass : Nat) (c : Column),
    totalVolume (c.afterDraw density mass).segments =
      totalVolume c.segments - (mass * 10000 + c.remainder) / density) ∧
  (∀ (depth : Nat) (s : State), s.reanchor depth = reanchoredAt depth s ∧
    totalVolume (s.reanchor depth).column.segments = volumeBelow s.prof.bands depth) ∧
  (∀ (layers : List Segment) (s : State), s.addLayers layers = layersTaken layers s) ∧
  (∀ (capacity : Nat) (g : Segment) (layers : List Segment) (c : Column),
    let added := min g.volume (capacity - totalVolume c.segments)
    let next := Column.layers capacity layers (c.join { g with volume := added })
    Column.layers capacity [] c = (c, 0) ∧
    Column.layers capacity (g :: layers) c = (next.1, (g.volume - added) + next.2)) ∧
  (∀ (gone rest : List Segment) (g : Segment) (v : Nat),
    (totalVolume (rest ++ g :: gone) ≤ v → takeTop (rest ++ g :: gone) v = []) ∧
    (totalVolume gone ≤ v → v < totalVolume gone + g.volume →
      takeTop (rest ++ g :: gone) v = rest ++ [{ g with volume := g.volume - (v - totalVolume gone) }])) ∧
  (∀ (lower upper : Segment) (rest : List Segment) (zone : Nat),
    totalVolume (mergeBottom (lower :: upper :: rest)) = totalVolume (lower :: upper :: rest) ∧
    mergeBottom (lower :: upper :: rest) =
      ⟨lower.volume + upper.volume,
        if moistureCode lower.moisture < moistureCode upper.moisture then upper.moisture else lower.moisture,
        if lower.origin = upper.origin then lower.origin else none, lower.oversize || upper.oversize,
        lower.estimated || upper.estimated, lower.unauthorised || upper.unauthorised⟩ :: rest ∧
    wetWithin (lower :: upper :: rest) zone ≤ wetWithin (mergeBottom (lower :: upper :: rest)) zone) ∧
  (∀ (g : Segment) (c : Column), (g.volume = 0 → c.join g = c) ∧
    (g.volume ≠ 0 → c.segments.length < 32 → c.join g = { c with segments := c.segments ++ [g] }) ∧
    (g.volume ≠ 0 → c.segments.length = 32 →
      c.join g = { c with segments := mergeBottom c.segments ++ [g], mergeCount := min (c.mergeCount + 1) 65535 }))
end

