-- ==== Sys2Proof/Laws/State.lean ====
section
/-! SUPPORT. What each update of the state leaves and sets, one lemma per field per update. -/

namespace Sys2Proof.Machine

/-! ## setColumnRecord -/

@[simp] theorem State.setColumnRecord_pending (x : Column) (s : State) : (s.setColumnRecord x).pending = s.pending := rfl
@[simp] theorem State.setColumnRecord_openReads (x : Column) (s : State) : (s.setColumnRecord x).openReads = s.openReads := rfl
@[simp] theorem State.setColumnRecord_time (x : Column) (s : State) : (s.setColumnRecord x).time = s.time := rfl
@[simp] theorem State.setColumnRecord_mode (x : Column) (s : State) : (s.setColumnRecord x).mode = s.mode := rfl
@[simp] theorem State.setColumnRecord_blocksStarted (x : Column) (s : State) : (s.setColumnRecord x).blocksStarted = s.blocksStarted := rfl
@[simp] theorem State.setColumnRecord_restartCauses (x : Column) (s : State) : (s.setColumnRecord x).restartCauses = s.restartCauses := rfl
@[simp] theorem State.setColumnRecord_pins (x : Column) (s : State) : (s.setColumnRecord x).pins = s.pins := rfl
@[simp] theorem State.setColumnRecord_straps (x : Column) (s : State) : (s.setColumnRecord x).straps = s.straps := rfl
@[simp] theorem State.setColumnRecord_store (x : Column) (s : State) : (s.setColumnRecord x).store = s.store := rfl
@[simp] theorem State.setColumnRecord_profile (x : Column) (s : State) : (s.setColumnRecord x).profile = s.profile := rfl
@[simp] theorem State.setColumnRecord_profileResult (x : Column) (s : State) : (s.setColumnRecord x).profileResult = s.profileResult := rfl
@[simp] theorem State.setColumnRecord_column (x : Column) (s : State) : (s.setColumnRecord x).column = x := rfl
@[simp] theorem State.setColumnRecord_watch (x : Column) (s : State) : (s.setColumnRecord x).watch = s.watch := rfl
@[simp] theorem State.setColumnRecord_holds (x : Column) (s : State) : (s.setColumnRecord x).holds = s.holds := rfl
@[simp] theorem State.setColumnRecord_reservations (x : Column) (s : State) : (s.setColumnRecord x).reservations = s.reservations := rfl
@[simp] theorem State.setColumnRecord_tip (x : Column) (s : State) : (s.setColumnRecord x).tip = s.tip := rfl
@[simp] theorem State.setColumnRecord_breaker (x : Column) (s : State) : (s.setColumnRecord x).breaker = s.breaker := rfl
@[simp] theorem State.setColumnRecord_gates (x : Column) (s : State) : (s.setColumnRecord x).gates = s.gates := rfl
@[simp] theorem State.setColumnRecord_drawn (x : Column) (s : State) : (s.setColumnRecord x).drawn = s.drawn := rfl
@[simp] theorem State.setColumnRecord_line (x : Column) (s : State) : (s.setColumnRecord x).line = s.line := rfl
@[simp] theorem State.setColumnRecord_peers (x : Column) (s : State) : (s.setColumnRecord x).peers = s.peers := rfl
@[simp] theorem State.setColumnRecord_field (x : Column) (s : State) : (s.setColumnRecord x).field = s.field := rfl
@[simp] theorem State.setColumnRecord_port (x : Column) (s : State) : (s.setColumnRecord x).port = s.port := rfl

/-! ## setWatch -/

@[simp] theorem State.setWatch_pending (x : Watch) (s : State) : (s.setWatch x).pending = s.pending := rfl
@[simp] theorem State.setWatch_openReads (x : Watch) (s : State) : (s.setWatch x).openReads = s.openReads := rfl
@[simp] theorem State.setWatch_time (x : Watch) (s : State) : (s.setWatch x).time = s.time := rfl
@[simp] theorem State.setWatch_mode (x : Watch) (s : State) : (s.setWatch x).mode = s.mode := rfl
@[simp] theorem State.setWatch_blocksStarted (x : Watch) (s : State) : (s.setWatch x).blocksStarted = s.blocksStarted := rfl
@[simp] theorem State.setWatch_restartCauses (x : Watch) (s : State) : (s.setWatch x).restartCauses = s.restartCauses := rfl
@[simp] theorem State.setWatch_pins (x : Watch) (s : State) : (s.setWatch x).pins = s.pins := rfl
@[simp] theorem State.setWatch_straps (x : Watch) (s : State) : (s.setWatch x).straps = s.straps := rfl
@[simp] theorem State.setWatch_store (x : Watch) (s : State) : (s.setWatch x).store = s.store := rfl
@[simp] theorem State.setWatch_profile (x : Watch) (s : State) : (s.setWatch x).profile = s.profile := rfl
@[simp] theorem State.setWatch_profileResult (x : Watch) (s : State) : (s.setWatch x).profileResult = s.profileResult := rfl
@[simp] theorem State.setWatch_column (x : Watch) (s : State) : (s.setWatch x).column = s.column := rfl
@[simp] theorem State.setWatch_watch (x : Watch) (s : State) : (s.setWatch x).watch = x := rfl
@[simp] theorem State.setWatch_holds (x : Watch) (s : State) : (s.setWatch x).holds = s.holds := rfl
@[simp] theorem State.setWatch_reservations (x : Watch) (s : State) : (s.setWatch x).reservations = s.reservations := rfl
@[simp] theorem State.setWatch_tip (x : Watch) (s : State) : (s.setWatch x).tip = s.tip := rfl
@[simp] theorem State.setWatch_breaker (x : Watch) (s : State) : (s.setWatch x).breaker = s.breaker := rfl
@[simp] theorem State.setWatch_gates (x : Watch) (s : State) : (s.setWatch x).gates = s.gates := rfl
@[simp] theorem State.setWatch_drawn (x : Watch) (s : State) : (s.setWatch x).drawn = s.drawn := rfl
@[simp] theorem State.setWatch_line (x : Watch) (s : State) : (s.setWatch x).line = s.line := rfl
@[simp] theorem State.setWatch_peers (x : Watch) (s : State) : (s.setWatch x).peers = s.peers := rfl
@[simp] theorem State.setWatch_field (x : Watch) (s : State) : (s.setWatch x).field = s.field := rfl
@[simp] theorem State.setWatch_port (x : Watch) (s : State) : (s.setWatch x).port = s.port := rfl

/-! ## setHolds -/

@[simp] theorem State.setHolds_pending (x : List Hold) (s : State) : (s.setHolds x).pending = s.pending := rfl
@[simp] theorem State.setHolds_openReads (x : List Hold) (s : State) : (s.setHolds x).openReads = s.openReads := rfl
@[simp] theorem State.setHolds_time (x : List Hold) (s : State) : (s.setHolds x).time = s.time := rfl
@[simp] theorem State.setHolds_mode (x : List Hold) (s : State) : (s.setHolds x).mode = s.mode := rfl
@[simp] theorem State.setHolds_blocksStarted (x : List Hold) (s : State) : (s.setHolds x).blocksStarted = s.blocksStarted := rfl
@[simp] theorem State.setHolds_restartCauses (x : List Hold) (s : State) : (s.setHolds x).restartCauses = s.restartCauses := rfl
@[simp] theorem State.setHolds_pins (x : List Hold) (s : State) : (s.setHolds x).pins = s.pins := rfl
@[simp] theorem State.setHolds_straps (x : List Hold) (s : State) : (s.setHolds x).straps = s.straps := rfl
@[simp] theorem State.setHolds_store (x : List Hold) (s : State) : (s.setHolds x).store = s.store := rfl
@[simp] theorem State.setHolds_profile (x : List Hold) (s : State) : (s.setHolds x).profile = s.profile := rfl
@[simp] theorem State.setHolds_profileResult (x : List Hold) (s : State) : (s.setHolds x).profileResult = s.profileResult := rfl
@[simp] theorem State.setHolds_column (x : List Hold) (s : State) : (s.setHolds x).column = s.column := rfl
@[simp] theorem State.setHolds_watch (x : List Hold) (s : State) : (s.setHolds x).watch = s.watch := rfl
@[simp] theorem State.setHolds_holds (x : List Hold) (s : State) : (s.setHolds x).holds = x := rfl
@[simp] theorem State.setHolds_reservations (x : List Hold) (s : State) : (s.setHolds x).reservations = s.reservations := rfl
@[simp] theorem State.setHolds_tip (x : List Hold) (s : State) : (s.setHolds x).tip = s.tip := rfl
@[simp] theorem State.setHolds_breaker (x : List Hold) (s : State) : (s.setHolds x).breaker = s.breaker := rfl
@[simp] theorem State.setHolds_gates (x : List Hold) (s : State) : (s.setHolds x).gates = s.gates := rfl
@[simp] theorem State.setHolds_drawn (x : List Hold) (s : State) : (s.setHolds x).drawn = s.drawn := rfl
@[simp] theorem State.setHolds_line (x : List Hold) (s : State) : (s.setHolds x).line = s.line := rfl
@[simp] theorem State.setHolds_peers (x : List Hold) (s : State) : (s.setHolds x).peers = s.peers := rfl
@[simp] theorem State.setHolds_field (x : List Hold) (s : State) : (s.setHolds x).field = s.field := rfl
@[simp] theorem State.setHolds_port (x : List Hold) (s : State) : (s.setHolds x).port = s.port := rfl

/-! ## setReservations -/

@[simp] theorem State.setReservations_pending (x : List Reservation) (s : State) : (s.setReservations x).pending = s.pending := rfl
@[simp] theorem State.setReservations_openReads (x : List Reservation) (s : State) : (s.setReservations x).openReads = s.openReads := rfl
@[simp] theorem State.setReservations_time (x : List Reservation) (s : State) : (s.setReservations x).time = s.time := rfl
@[simp] theorem State.setReservations_mode (x : List Reservation) (s : State) : (s.setReservations x).mode = s.mode := rfl
@[simp] theorem State.setReservations_blocksStarted (x : List Reservation) (s : State) : (s.setReservations x).blocksStarted = s.blocksStarted := rfl
@[simp] theorem State.setReservations_restartCauses (x : List Reservation) (s : State) : (s.setReservations x).restartCauses = s.restartCauses := rfl
@[simp] theorem State.setReservations_pins (x : List Reservation) (s : State) : (s.setReservations x).pins = s.pins := rfl
@[simp] theorem State.setReservations_straps (x : List Reservation) (s : State) : (s.setReservations x).straps = s.straps := rfl
@[simp] theorem State.setReservations_store (x : List Reservation) (s : State) : (s.setReservations x).store = s.store := rfl
@[simp] theorem State.setReservations_profile (x : List Reservation) (s : State) : (s.setReservations x).profile = s.profile := rfl
@[simp] theorem State.setReservations_profileResult (x : List Reservation) (s : State) : (s.setReservations x).profileResult = s.profileResult := rfl
@[simp] theorem State.setReservations_column (x : List Reservation) (s : State) : (s.setReservations x).column = s.column := rfl
@[simp] theorem State.setReservations_watch (x : List Reservation) (s : State) : (s.setReservations x).watch = s.watch := rfl
@[simp] theorem State.setReservations_holds (x : List Reservation) (s : State) : (s.setReservations x).holds = s.holds := rfl
@[simp] theorem State.setReservations_reservations (x : List Reservation) (s : State) : (s.setReservations x).reservations = x := rfl
@[simp] theorem State.setReservations_tip (x : List Reservation) (s : State) : (s.setReservations x).tip = s.tip := rfl
@[simp] theorem State.setReservations_breaker (x : List Reservation) (s : State) : (s.setReservations x).breaker = s.breaker := rfl
@[simp] theorem State.setReservations_gates (x : List Reservation) (s : State) : (s.setReservations x).gates = s.gates := rfl
@[simp] theorem State.setReservations_drawn (x : List Reservation) (s : State) : (s.setReservations x).drawn = s.drawn := rfl
@[simp] theorem State.setReservations_line (x : List Reservation) (s : State) : (s.setReservations x).line = s.line := rfl
@[simp] theorem State.setReservations_peers (x : List Reservation) (s : State) : (s.setReservations x).peers = s.peers := rfl
@[simp] theorem State.setReservations_field (x : List Reservation) (s : State) : (s.setReservations x).field = s.field := rfl
@[simp] theorem State.setReservations_port (x : List Reservation) (s : State) : (s.setReservations x).port = s.port := rfl

/-! ## setTip -/

@[simp] theorem State.setTip_pending (x : Tip) (s : State) : (s.setTip x).pending = s.pending := rfl
@[simp] theorem State.setTip_openReads (x : Tip) (s : State) : (s.setTip x).openReads = s.openReads := rfl
@[simp] theorem State.setTip_time (x : Tip) (s : State) : (s.setTip x).time = s.time := rfl
@[simp] theorem State.setTip_mode (x : Tip) (s : State) : (s.setTip x).mode = s.mode := rfl
@[simp] theorem State.setTip_blocksStarted (x : Tip) (s : State) : (s.setTip x).blocksStarted = s.blocksStarted := rfl
@[simp] theorem State.setTip_restartCauses (x : Tip) (s : State) : (s.setTip x).restartCauses = s.restartCauses := rfl
@[simp] theorem State.setTip_pins (x : Tip) (s : State) : (s.setTip x).pins = s.pins := rfl
@[simp] theorem State.setTip_straps (x : Tip) (s : State) : (s.setTip x).straps = s.straps := rfl
@[simp] theorem State.setTip_store (x : Tip) (s : State) : (s.setTip x).store = s.store := rfl
@[simp] theorem State.setTip_profile (x : Tip) (s : State) : (s.setTip x).profile = s.profile := rfl
@[simp] theorem State.setTip_profileResult (x : Tip) (s : State) : (s.setTip x).profileResult = s.profileResult := rfl
@[simp] theorem State.setTip_column (x : Tip) (s : State) : (s.setTip x).column = s.column := rfl
@[simp] theorem State.setTip_watch (x : Tip) (s : State) : (s.setTip x).watch = s.watch := rfl
@[simp] theorem State.setTip_holds (x : Tip) (s : State) : (s.setTip x).holds = s.holds := rfl
@[simp] theorem State.setTip_reservations (x : Tip) (s : State) : (s.setTip x).reservations = s.reservations := rfl
@[simp] theorem State.setTip_tip (x : Tip) (s : State) : (s.setTip x).tip = x := rfl
@[simp] theorem State.setTip_breaker (x : Tip) (s : State) : (s.setTip x).breaker = s.breaker := rfl
@[simp] theorem State.setTip_gates (x : Tip) (s : State) : (s.setTip x).gates = s.gates := rfl
@[simp] theorem State.setTip_drawn (x : Tip) (s : State) : (s.setTip x).drawn = s.drawn := rfl
@[simp] theorem State.setTip_line (x : Tip) (s : State) : (s.setTip x).line = s.line := rfl
@[simp] theorem State.setTip_peers (x : Tip) (s : State) : (s.setTip x).peers = s.peers := rfl
@[simp] theorem State.setTip_field (x : Tip) (s : State) : (s.setTip x).field = s.field := rfl
@[simp] theorem State.setTip_port (x : Tip) (s : State) : (s.setTip x).port = s.port := rfl

/-! ## setBreaker -/

@[simp] theorem State.setBreaker_pending (x : Breaker) (s : State) : (s.setBreaker x).pending = s.pending := rfl
@[simp] theorem State.setBreaker_openReads (x : Breaker) (s : State) : (s.setBreaker x).openReads = s.openReads := rfl
@[simp] theorem State.setBreaker_time (x : Breaker) (s : State) : (s.setBreaker x).time = s.time := rfl
@[simp] theorem State.setBreaker_mode (x : Breaker) (s : State) : (s.setBreaker x).mode = s.mode := rfl
@[simp] theorem State.setBreaker_blocksStarted (x : Breaker) (s : State) : (s.setBreaker x).blocksStarted = s.blocksStarted := rfl
@[simp] theorem State.setBreaker_restartCauses (x : Breaker) (s : State) : (s.setBreaker x).restartCauses = s.restartCauses := rfl
@[simp] theorem State.setBreaker_pins (x : Breaker) (s : State) : (s.setBreaker x).pins = s.pins := rfl
@[simp] theorem State.setBreaker_straps (x : Breaker) (s : State) : (s.setBreaker x).straps = s.straps := rfl
@[simp] theorem State.setBreaker_store (x : Breaker) (s : State) : (s.setBreaker x).store = s.store := rfl
@[simp] theorem State.setBreaker_profile (x : Breaker) (s : State) : (s.setBreaker x).profile = s.profile := rfl
@[simp] theorem State.setBreaker_profileResult (x : Breaker) (s : State) : (s.setBreaker x).profileResult = s.profileResult := rfl
@[simp] theorem State.setBreaker_column (x : Breaker) (s : State) : (s.setBreaker x).column = s.column := rfl
@[simp] theorem State.setBreaker_watch (x : Breaker) (s : State) : (s.setBreaker x).watch = s.watch := rfl
@[simp] theorem State.setBreaker_holds (x : Breaker) (s : State) : (s.setBreaker x).holds = s.holds := rfl
@[simp] theorem State.setBreaker_reservations (x : Breaker) (s : State) : (s.setBreaker x).reservations = s.reservations := rfl
@[simp] theorem State.setBreaker_tip (x : Breaker) (s : State) : (s.setBreaker x).tip = s.tip := rfl
@[simp] theorem State.setBreaker_breaker (x : Breaker) (s : State) : (s.setBreaker x).breaker = x := rfl
@[simp] theorem State.setBreaker_gates (x : Breaker) (s : State) : (s.setBreaker x).gates = s.gates := rfl
@[simp] theorem State.setBreaker_drawn (x : Breaker) (s : State) : (s.setBreaker x).drawn = s.drawn := rfl
@[simp] theorem State.setBreaker_line (x : Breaker) (s : State) : (s.setBreaker x).line = s.line := rfl
@[simp] theorem State.setBreaker_peers (x : Breaker) (s : State) : (s.setBreaker x).peers = s.peers := rfl
@[simp] theorem State.setBreaker_field (x : Breaker) (s : State) : (s.setBreaker x).field = s.field := rfl
@[simp] theorem State.setBreaker_port (x : Breaker) (s : State) : (s.setBreaker x).port = s.port := rfl

/-! ## setGates -/

@[simp] theorem State.setGates_pending (x : PerGate GateSeq) (s : State) : (s.setGates x).pending = s.pending := rfl
@[simp] theorem State.setGates_openReads (x : PerGate GateSeq) (s : State) : (s.setGates x).openReads = s.openReads := rfl
@[simp] theorem State.setGates_time (x : PerGate GateSeq) (s : State) : (s.setGates x).time = s.time := rfl
@[simp] theorem State.setGates_mode (x : PerGate GateSeq) (s : State) : (s.setGates x).mode = s.mode := rfl
@[simp] theorem State.setGates_blocksStarted (x : PerGate GateSeq) (s : State) : (s.setGates x).blocksStarted = s.blocksStarted := rfl
@[simp] theorem State.setGates_restartCauses (x : PerGate GateSeq) (s : State) : (s.setGates x).restartCauses = s.restartCauses := rfl
@[simp] theorem State.setGates_pins (x : PerGate GateSeq) (s : State) : (s.setGates x).pins = s.pins := rfl
@[simp] theorem State.setGates_straps (x : PerGate GateSeq) (s : State) : (s.setGates x).straps = s.straps := rfl
@[simp] theorem State.setGates_store (x : PerGate GateSeq) (s : State) : (s.setGates x).store = s.store := rfl
@[simp] theorem State.setGates_profile (x : PerGate GateSeq) (s : State) : (s.setGates x).profile = s.profile := rfl
@[simp] theorem State.setGates_profileResult (x : PerGate GateSeq) (s : State) : (s.setGates x).profileResult = s.profileResult := rfl
@[simp] theorem State.setGates_column (x : PerGate GateSeq) (s : State) : (s.setGates x).column = s.column := rfl
@[simp] theorem State.setGates_watch (x : PerGate GateSeq) (s : State) : (s.setGates x).watch = s.watch := rfl
@[simp] theorem State.setGates_holds (x : PerGate GateSeq) (s : State) : (s.setGates x).holds = s.holds := rfl
@[simp] theorem State.setGates_reservations (x : PerGate GateSeq) (s : State) : (s.setGates x).reservations = s.reservations := rfl
@[simp] theorem State.setGates_tip (x : PerGate GateSeq) (s : State) : (s.setGates x).tip = s.tip := rfl
@[simp] theorem State.setGates_breaker (x : PerGate GateSeq) (s : State) : (s.setGates x).breaker = s.breaker := rfl
@[simp] theorem State.setGates_gates (x : PerGate GateSeq) (s : State) : (s.setGates x).gates = x := rfl
@[simp] theorem State.setGates_drawn (x : PerGate GateSeq) (s : State) : (s.setGates x).drawn = s.drawn := rfl
@[simp] theorem State.setGates_line (x : PerGate GateSeq) (s : State) : (s.setGates x).line = s.line := rfl
@[simp] theorem State.setGates_peers (x : PerGate GateSeq) (s : State) : (s.setGates x).peers = s.peers := rfl
@[simp] theorem State.setGates_field (x : PerGate GateSeq) (s : State) : (s.setGates x).field = s.field := rfl
@[simp] theorem State.setGates_port (x : PerGate GateSeq) (s : State) : (s.setGates x).port = s.port := rfl

/-! ## setDrawn -/

@[simp] theorem State.setDrawn_pending (x : DrawTotals) (s : State) : (s.setDrawn x).pending = s.pending := rfl
@[simp] theorem State.setDrawn_openReads (x : DrawTotals) (s : State) : (s.setDrawn x).openReads = s.openReads := rfl
@[simp] theorem State.setDrawn_time (x : DrawTotals) (s : State) : (s.setDrawn x).time = s.time := rfl
@[simp] theorem State.setDrawn_mode (x : DrawTotals) (s : State) : (s.setDrawn x).mode = s.mode := rfl
@[simp] theorem State.setDrawn_blocksStarted (x : DrawTotals) (s : State) : (s.setDrawn x).blocksStarted = s.blocksStarted := rfl
@[simp] theorem State.setDrawn_restartCauses (x : DrawTotals) (s : State) : (s.setDrawn x).restartCauses = s.restartCauses := rfl
@[simp] theorem State.setDrawn_pins (x : DrawTotals) (s : State) : (s.setDrawn x).pins = s.pins := rfl
@[simp] theorem State.setDrawn_straps (x : DrawTotals) (s : State) : (s.setDrawn x).straps = s.straps := rfl
@[simp] theorem State.setDrawn_store (x : DrawTotals) (s : State) : (s.setDrawn x).store = s.store := rfl
@[simp] theorem State.setDrawn_profile (x : DrawTotals) (s : State) : (s.setDrawn x).profile = s.profile := rfl
@[simp] theorem State.setDrawn_profileResult (x : DrawTotals) (s : State) : (s.setDrawn x).profileResult = s.profileResult := rfl
@[simp] theorem State.setDrawn_column (x : DrawTotals) (s : State) : (s.setDrawn x).column = s.column := rfl
@[simp] theorem State.setDrawn_watch (x : DrawTotals) (s : State) : (s.setDrawn x).watch = s.watch := rfl
@[simp] theorem State.setDrawn_holds (x : DrawTotals) (s : State) : (s.setDrawn x).holds = s.holds := rfl
@[simp] theorem State.setDrawn_reservations (x : DrawTotals) (s : State) : (s.setDrawn x).reservations = s.reservations := rfl
@[simp] theorem State.setDrawn_tip (x : DrawTotals) (s : State) : (s.setDrawn x).tip = s.tip := rfl
@[simp] theorem State.setDrawn_breaker (x : DrawTotals) (s : State) : (s.setDrawn x).breaker = s.breaker := rfl
@[simp] theorem State.setDrawn_gates (x : DrawTotals) (s : State) : (s.setDrawn x).gates = s.gates := rfl
@[simp] theorem State.setDrawn_drawn (x : DrawTotals) (s : State) : (s.setDrawn x).drawn = x := rfl
@[simp] theorem State.setDrawn_line (x : DrawTotals) (s : State) : (s.setDrawn x).line = s.line := rfl
@[simp] theorem State.setDrawn_peers (x : DrawTotals) (s : State) : (s.setDrawn x).peers = s.peers := rfl
@[simp] theorem State.setDrawn_field (x : DrawTotals) (s : State) : (s.setDrawn x).field = s.field := rfl
@[simp] theorem State.setDrawn_port (x : DrawTotals) (s : State) : (s.setDrawn x).port = s.port := rfl

/-! ## setLine -/

@[simp] theorem State.setLine_pending (x : Line) (s : State) : (s.setLine x).pending = s.pending := rfl
@[simp] theorem State.setLine_openReads (x : Line) (s : State) : (s.setLine x).openReads = s.openReads := rfl
@[simp] theorem State.setLine_time (x : Line) (s : State) : (s.setLine x).time = s.time := rfl
@[simp] theorem State.setLine_mode (x : Line) (s : State) : (s.setLine x).mode = s.mode := rfl
@[simp] theorem State.setLine_blocksStarted (x : Line) (s : State) : (s.setLine x).blocksStarted = s.blocksStarted := rfl
@[simp] theorem State.setLine_restartCauses (x : Line) (s : State) : (s.setLine x).restartCauses = s.restartCauses := rfl
@[simp] theorem State.setLine_pins (x : Line) (s : State) : (s.setLine x).pins = s.pins := rfl
@[simp] theorem State.setLine_straps (x : Line) (s : State) : (s.setLine x).straps = s.straps := rfl
@[simp] theorem State.setLine_store (x : Line) (s : State) : (s.setLine x).store = s.store := rfl
@[simp] theorem State.setLine_profile (x : Line) (s : State) : (s.setLine x).profile = s.profile := rfl
@[simp] theorem State.setLine_profileResult (x : Line) (s : State) : (s.setLine x).profileResult = s.profileResult := rfl
@[simp] theorem State.setLine_column (x : Line) (s : State) : (s.setLine x).column = s.column := rfl
@[simp] theorem State.setLine_watch (x : Line) (s : State) : (s.setLine x).watch = s.watch := rfl
@[simp] theorem State.setLine_holds (x : Line) (s : State) : (s.setLine x).holds = s.holds := rfl
@[simp] theorem State.setLine_reservations (x : Line) (s : State) : (s.setLine x).reservations = s.reservations := rfl
@[simp] theorem State.setLine_tip (x : Line) (s : State) : (s.setLine x).tip = s.tip := rfl
@[simp] theorem State.setLine_breaker (x : Line) (s : State) : (s.setLine x).breaker = s.breaker := rfl
@[simp] theorem State.setLine_gates (x : Line) (s : State) : (s.setLine x).gates = s.gates := rfl
@[simp] theorem State.setLine_drawn (x : Line) (s : State) : (s.setLine x).drawn = s.drawn := rfl
@[simp] theorem State.setLine_line (x : Line) (s : State) : (s.setLine x).line = x := rfl
@[simp] theorem State.setLine_peers (x : Line) (s : State) : (s.setLine x).peers = s.peers := rfl
@[simp] theorem State.setLine_field (x : Line) (s : State) : (s.setLine x).field = s.field := rfl
@[simp] theorem State.setLine_port (x : Line) (s : State) : (s.setLine x).port = s.port := rfl

/-! ## setPeers -/

@[simp] theorem State.setPeers_pending (x : PeerTable) (s : State) : (s.setPeers x).pending = s.pending := rfl
@[simp] theorem State.setPeers_openReads (x : PeerTable) (s : State) : (s.setPeers x).openReads = s.openReads := rfl
@[simp] theorem State.setPeers_time (x : PeerTable) (s : State) : (s.setPeers x).time = s.time := rfl
@[simp] theorem State.setPeers_mode (x : PeerTable) (s : State) : (s.setPeers x).mode = s.mode := rfl
@[simp] theorem State.setPeers_blocksStarted (x : PeerTable) (s : State) : (s.setPeers x).blocksStarted = s.blocksStarted := rfl
@[simp] theorem State.setPeers_restartCauses (x : PeerTable) (s : State) : (s.setPeers x).restartCauses = s.restartCauses := rfl
@[simp] theorem State.setPeers_pins (x : PeerTable) (s : State) : (s.setPeers x).pins = s.pins := rfl
@[simp] theorem State.setPeers_straps (x : PeerTable) (s : State) : (s.setPeers x).straps = s.straps := rfl
@[simp] theorem State.setPeers_store (x : PeerTable) (s : State) : (s.setPeers x).store = s.store := rfl
@[simp] theorem State.setPeers_profile (x : PeerTable) (s : State) : (s.setPeers x).profile = s.profile := rfl
@[simp] theorem State.setPeers_profileResult (x : PeerTable) (s : State) : (s.setPeers x).profileResult = s.profileResult := rfl
@[simp] theorem State.setPeers_column (x : PeerTable) (s : State) : (s.setPeers x).column = s.column := rfl
@[simp] theorem State.setPeers_watch (x : PeerTable) (s : State) : (s.setPeers x).watch = s.watch := rfl
@[simp] theorem State.setPeers_holds (x : PeerTable) (s : State) : (s.setPeers x).holds = s.holds := rfl
@[simp] theorem State.setPeers_reservations (x : PeerTable) (s : State) : (s.setPeers x).reservations = s.reservations := rfl
@[simp] theorem State.setPeers_tip (x : PeerTable) (s : State) : (s.setPeers x).tip = s.tip := rfl
@[simp] theorem State.setPeers_breaker (x : PeerTable) (s : State) : (s.setPeers x).breaker = s.breaker := rfl
@[simp] theorem State.setPeers_gates (x : PeerTable) (s : State) : (s.setPeers x).gates = s.gates := rfl
@[simp] theorem State.setPeers_drawn (x : PeerTable) (s : State) : (s.setPeers x).drawn = s.drawn := rfl
@[simp] theorem State.setPeers_line (x : PeerTable) (s : State) : (s.setPeers x).line = s.line := rfl
@[simp] theorem State.setPeers_peers (x : PeerTable) (s : State) : (s.setPeers x).peers = x := rfl
@[simp] theorem State.setPeers_field (x : PeerTable) (s : State) : (s.setPeers x).field = s.field := rfl
@[simp] theorem State.setPeers_port (x : PeerTable) (s : State) : (s.setPeers x).port = s.port := rfl

/-! ## setField -/

@[simp] theorem State.setField_pending (x : Field) (s : State) : (s.setField x).pending = s.pending := rfl
@[simp] theorem State.setField_openReads (x : Field) (s : State) : (s.setField x).openReads = s.openReads := rfl
@[simp] theorem State.setField_time (x : Field) (s : State) : (s.setField x).time = s.time := rfl
@[simp] theorem State.setField_mode (x : Field) (s : State) : (s.setField x).mode = s.mode := rfl
@[simp] theorem State.setField_blocksStarted (x : Field) (s : State) : (s.setField x).blocksStarted = s.blocksStarted := rfl
@[simp] theorem State.setField_restartCauses (x : Field) (s : State) : (s.setField x).restartCauses = s.restartCauses := rfl
@[simp] theorem State.setField_pins (x : Field) (s : State) : (s.setField x).pins = s.pins := rfl
@[simp] theorem State.setField_straps (x : Field) (s : State) : (s.setField x).straps = s.straps := rfl
@[simp] theorem State.setField_store (x : Field) (s : State) : (s.setField x).store = s.store := rfl
@[simp] theorem State.setField_profile (x : Field) (s : State) : (s.setField x).profile = s.profile := rfl
@[simp] theorem State.setField_profileResult (x : Field) (s : State) : (s.setField x).profileResult = s.profileResult := rfl
@[simp] theorem State.setField_column (x : Field) (s : State) : (s.setField x).column = s.column := rfl
@[simp] theorem State.setField_watch (x : Field) (s : State) : (s.setField x).watch = s.watch := rfl
@[simp] theorem State.setField_holds (x : Field) (s : State) : (s.setField x).holds = s.holds := rfl
@[simp] theorem State.setField_reservations (x : Field) (s : State) : (s.setField x).reservations = s.reservations := rfl
@[simp] theorem State.setField_tip (x : Field) (s : State) : (s.setField x).tip = s.tip := rfl
@[simp] theorem State.setField_breaker (x : Field) (s : State) : (s.setField x).breaker = s.breaker := rfl
@[simp] theorem State.setField_gates (x : Field) (s : State) : (s.setField x).gates = s.gates := rfl
@[simp] theorem State.setField_drawn (x : Field) (s : State) : (s.setField x).drawn = s.drawn := rfl
@[simp] theorem State.setField_line (x : Field) (s : State) : (s.setField x).line = s.line := rfl
@[simp] theorem State.setField_peers (x : Field) (s : State) : (s.setField x).peers = s.peers := rfl
@[simp] theorem State.setField_field (x : Field) (s : State) : (s.setField x).field = x := rfl
@[simp] theorem State.setField_port (x : Field) (s : State) : (s.setField x).port = s.port := rfl

/-! ## setPort -/

@[simp] theorem State.setPort_pending (x : Port) (s : State) : (s.setPort x).pending = s.pending := rfl
@[simp] theorem State.setPort_openReads (x : Port) (s : State) : (s.setPort x).openReads = s.openReads := rfl
@[simp] theorem State.setPort_time (x : Port) (s : State) : (s.setPort x).time = s.time := rfl
@[simp] theorem State.setPort_mode (x : Port) (s : State) : (s.setPort x).mode = s.mode := rfl
@[simp] theorem State.setPort_blocksStarted (x : Port) (s : State) : (s.setPort x).blocksStarted = s.blocksStarted := rfl
@[simp] theorem State.setPort_restartCauses (x : Port) (s : State) : (s.setPort x).restartCauses = s.restartCauses := rfl
@[simp] theorem State.setPort_pins (x : Port) (s : State) : (s.setPort x).pins = s.pins := rfl
@[simp] theorem State.setPort_straps (x : Port) (s : State) : (s.setPort x).straps = s.straps := rfl
@[simp] theorem State.setPort_store (x : Port) (s : State) : (s.setPort x).store = s.store := rfl
@[simp] theorem State.setPort_profile (x : Port) (s : State) : (s.setPort x).profile = s.profile := rfl
@[simp] theorem State.setPort_profileResult (x : Port) (s : State) : (s.setPort x).profileResult = s.profileResult := rfl
@[simp] theorem State.setPort_column (x : Port) (s : State) : (s.setPort x).column = s.column := rfl
@[simp] theorem State.setPort_watch (x : Port) (s : State) : (s.setPort x).watch = s.watch := rfl
@[simp] theorem State.setPort_holds (x : Port) (s : State) : (s.setPort x).holds = s.holds := rfl
@[simp] theorem State.setPort_reservations (x : Port) (s : State) : (s.setPort x).reservations = s.reservations := rfl
@[simp] theorem State.setPort_tip (x : Port) (s : State) : (s.setPort x).tip = s.tip := rfl
@[simp] theorem State.setPort_breaker (x : Port) (s : State) : (s.setPort x).breaker = s.breaker := rfl
@[simp] theorem State.setPort_gates (x : Port) (s : State) : (s.setPort x).gates = s.gates := rfl
@[simp] theorem State.setPort_drawn (x : Port) (s : State) : (s.setPort x).drawn = s.drawn := rfl
@[simp] theorem State.setPort_line (x : Port) (s : State) : (s.setPort x).line = s.line := rfl
@[simp] theorem State.setPort_peers (x : Port) (s : State) : (s.setPort x).peers = s.peers := rfl
@[simp] theorem State.setPort_field (x : Port) (s : State) : (s.setPort x).field = s.field := rfl
@[simp] theorem State.setPort_port (x : Port) (s : State) : (s.setPort x).port = x := rfl

/-! ## setStore -/

@[simp] theorem State.setStore_pending (x : Store) (s : State) : (s.setStore x).pending = s.pending := rfl
@[simp] theorem State.setStore_openReads (x : Store) (s : State) : (s.setStore x).openReads = s.openReads := rfl
@[simp] theorem State.setStore_time (x : Store) (s : State) : (s.setStore x).time = s.time := rfl
@[simp] theorem State.setStore_mode (x : Store) (s : State) : (s.setStore x).mode = s.mode := rfl
@[simp] theorem State.setStore_blocksStarted (x : Store) (s : State) : (s.setStore x).blocksStarted = s.blocksStarted := rfl
@[simp] theorem State.setStore_restartCauses (x : Store) (s : State) : (s.setStore x).restartCauses = s.restartCauses := rfl
@[simp] theorem State.setStore_pins (x : Store) (s : State) : (s.setStore x).pins = s.pins := rfl
@[simp] theorem State.setStore_straps (x : Store) (s : State) : (s.setStore x).straps = s.straps := rfl
@[simp] theorem State.setStore_store (x : Store) (s : State) : (s.setStore x).store = x := rfl
@[simp] theorem State.setStore_profile (x : Store) (s : State) : (s.setStore x).profile = s.profile := rfl
@[simp] theorem State.setStore_profileResult (x : Store) (s : State) : (s.setStore x).profileResult = s.profileResult := rfl
@[simp] theorem State.setStore_column (x : Store) (s : State) : (s.setStore x).column = s.column := rfl
@[simp] theorem State.setStore_watch (x : Store) (s : State) : (s.setStore x).watch = s.watch := rfl
@[simp] theorem State.setStore_holds (x : Store) (s : State) : (s.setStore x).holds = s.holds := rfl
@[simp] theorem State.setStore_reservations (x : Store) (s : State) : (s.setStore x).reservations = s.reservations := rfl
@[simp] theorem State.setStore_tip (x : Store) (s : State) : (s.setStore x).tip = s.tip := rfl
@[simp] theorem State.setStore_breaker (x : Store) (s : State) : (s.setStore x).breaker = s.breaker := rfl
@[simp] theorem State.setStore_gates (x : Store) (s : State) : (s.setStore x).gates = s.gates := rfl
@[simp] theorem State.setStore_drawn (x : Store) (s : State) : (s.setStore x).drawn = s.drawn := rfl
@[simp] theorem State.setStore_line (x : Store) (s : State) : (s.setStore x).line = s.line := rfl
@[simp] theorem State.setStore_peers (x : Store) (s : State) : (s.setStore x).peers = s.peers := rfl
@[simp] theorem State.setStore_field (x : Store) (s : State) : (s.setStore x).field = s.field := rfl
@[simp] theorem State.setStore_port (x : Store) (s : State) : (s.setStore x).port = s.port := rfl

/-! ## setMode -/

@[simp] theorem State.setMode_pending (x : Mode) (s : State) : (s.setMode x).pending = s.pending := rfl
@[simp] theorem State.setMode_openReads (x : Mode) (s : State) : (s.setMode x).openReads = s.openReads := rfl
@[simp] theorem State.setMode_time (x : Mode) (s : State) : (s.setMode x).time = s.time := rfl
@[simp] theorem State.setMode_mode (x : Mode) (s : State) : (s.setMode x).mode = x := rfl
@[simp] theorem State.setMode_blocksStarted (x : Mode) (s : State) : (s.setMode x).blocksStarted = s.blocksStarted := rfl
@[simp] theorem State.setMode_restartCauses (x : Mode) (s : State) : (s.setMode x).restartCauses = s.restartCauses := rfl
@[simp] theorem State.setMode_pins (x : Mode) (s : State) : (s.setMode x).pins = s.pins := rfl
@[simp] theorem State.setMode_straps (x : Mode) (s : State) : (s.setMode x).straps = s.straps := rfl
@[simp] theorem State.setMode_store (x : Mode) (s : State) : (s.setMode x).store = s.store := rfl
@[simp] theorem State.setMode_profile (x : Mode) (s : State) : (s.setMode x).profile = s.profile := rfl
@[simp] theorem State.setMode_profileResult (x : Mode) (s : State) : (s.setMode x).profileResult = s.profileResult := rfl
@[simp] theorem State.setMode_column (x : Mode) (s : State) : (s.setMode x).column = s.column := rfl
@[simp] theorem State.setMode_watch (x : Mode) (s : State) : (s.setMode x).watch = s.watch := rfl
@[simp] theorem State.setMode_holds (x : Mode) (s : State) : (s.setMode x).holds = s.holds := rfl
@[simp] theorem State.setMode_reservations (x : Mode) (s : State) : (s.setMode x).reservations = s.reservations := rfl
@[simp] theorem State.setMode_tip (x : Mode) (s : State) : (s.setMode x).tip = s.tip := rfl
@[simp] theorem State.setMode_breaker (x : Mode) (s : State) : (s.setMode x).breaker = s.breaker := rfl
@[simp] theorem State.setMode_gates (x : Mode) (s : State) : (s.setMode x).gates = s.gates := rfl
@[simp] theorem State.setMode_drawn (x : Mode) (s : State) : (s.setMode x).drawn = s.drawn := rfl
@[simp] theorem State.setMode_line (x : Mode) (s : State) : (s.setMode x).line = s.line := rfl
@[simp] theorem State.setMode_peers (x : Mode) (s : State) : (s.setMode x).peers = s.peers := rfl
@[simp] theorem State.setMode_field (x : Mode) (s : State) : (s.setMode x).field = s.field := rfl
@[simp] theorem State.setMode_port (x : Mode) (s : State) : (s.setMode x).port = s.port := rfl

/-! ## setRestartCauses -/

@[simp] theorem State.setRestartCauses_pending (x : Causes) (s : State) : (s.setRestartCauses x).pending = s.pending := rfl
@[simp] theorem State.setRestartCauses_openReads (x : Causes) (s : State) : (s.setRestartCauses x).openReads = s.openReads := rfl
@[simp] theorem State.setRestartCauses_time (x : Causes) (s : State) : (s.setRestartCauses x).time = s.time := rfl
@[simp] theorem State.setRestartCauses_mode (x : Causes) (s : State) : (s.setRestartCauses x).mode = s.mode := rfl
@[simp] theorem State.setRestartCauses_blocksStarted (x : Causes) (s : State) : (s.setRestartCauses x).blocksStarted = s.blocksStarted := rfl
@[simp] theorem State.setRestartCauses_restartCauses (x : Causes) (s : State) : (s.setRestartCauses x).restartCauses = x := rfl
@[simp] theorem State.setRestartCauses_pins (x : Causes) (s : State) : (s.setRestartCauses x).pins = s.pins := rfl
@[simp] theorem State.setRestartCauses_straps (x : Causes) (s : State) : (s.setRestartCauses x).straps = s.straps := rfl
@[simp] theorem State.setRestartCauses_store (x : Causes) (s : State) : (s.setRestartCauses x).store = s.store := rfl
@[simp] theorem State.setRestartCauses_profile (x : Causes) (s : State) : (s.setRestartCauses x).profile = s.profile := rfl
@[simp] theorem State.setRestartCauses_profileResult (x : Causes) (s : State) : (s.setRestartCauses x).profileResult = s.profileResult := rfl
@[simp] theorem State.setRestartCauses_column (x : Causes) (s : State) : (s.setRestartCauses x).column = s.column := rfl
@[simp] theorem State.setRestartCauses_watch (x : Causes) (s : State) : (s.setRestartCauses x).watch = s.watch := rfl
@[simp] theorem State.setRestartCauses_holds (x : Causes) (s : State) : (s.setRestartCauses x).holds = s.holds := rfl
@[simp] theorem State.setRestartCauses_reservations (x : Causes) (s : State) : (s.setRestartCauses x).reservations = s.reservations := rfl
@[simp] theorem State.setRestartCauses_tip (x : Causes) (s : State) : (s.setRestartCauses x).tip = s.tip := rfl
@[simp] theorem State.setRestartCauses_breaker (x : Causes) (s : State) : (s.setRestartCauses x).breaker = s.breaker := rfl
@[simp] theorem State.setRestartCauses_gates (x : Causes) (s : State) : (s.setRestartCauses x).gates = s.gates := rfl
@[simp] theorem State.setRestartCauses_drawn (x : Causes) (s : State) : (s.setRestartCauses x).drawn = s.drawn := rfl
@[simp] theorem State.setRestartCauses_line (x : Causes) (s : State) : (s.setRestartCauses x).line = s.line := rfl
@[simp] theorem State.setRestartCauses_peers (x : Causes) (s : State) : (s.setRestartCauses x).peers = s.peers := rfl
@[simp] theorem State.setRestartCauses_field (x : Causes) (s : State) : (s.setRestartCauses x).field = s.field := rfl
@[simp] theorem State.setRestartCauses_port (x : Causes) (s : State) : (s.setRestartCauses x).port = s.port := rfl

/-! ## setBlocksStarted -/

@[simp] theorem State.setBlocksStarted_pending (x : Bool) (s : State) : (s.setBlocksStarted x).pending = s.pending := rfl
@[simp] theorem State.setBlocksStarted_openReads (x : Bool) (s : State) : (s.setBlocksStarted x).openReads = s.openReads := rfl
@[simp] theorem State.setBlocksStarted_time (x : Bool) (s : State) : (s.setBlocksStarted x).time = s.time := rfl
@[simp] theorem State.setBlocksStarted_mode (x : Bool) (s : State) : (s.setBlocksStarted x).mode = s.mode := rfl
@[simp] theorem State.setBlocksStarted_blocksStarted (x : Bool) (s : State) : (s.setBlocksStarted x).blocksStarted = x := rfl
@[simp] theorem State.setBlocksStarted_restartCauses (x : Bool) (s : State) : (s.setBlocksStarted x).restartCauses = s.restartCauses := rfl
@[simp] theorem State.setBlocksStarted_pins (x : Bool) (s : State) : (s.setBlocksStarted x).pins = s.pins := rfl
@[simp] theorem State.setBlocksStarted_straps (x : Bool) (s : State) : (s.setBlocksStarted x).straps = s.straps := rfl
@[simp] theorem State.setBlocksStarted_store (x : Bool) (s : State) : (s.setBlocksStarted x).store = s.store := rfl
@[simp] theorem State.setBlocksStarted_profile (x : Bool) (s : State) : (s.setBlocksStarted x).profile = s.profile := rfl
@[simp] theorem State.setBlocksStarted_profileResult (x : Bool) (s : State) : (s.setBlocksStarted x).profileResult = s.profileResult := rfl
@[simp] theorem State.setBlocksStarted_column (x : Bool) (s : State) : (s.setBlocksStarted x).column = s.column := rfl
@[simp] theorem State.setBlocksStarted_watch (x : Bool) (s : State) : (s.setBlocksStarted x).watch = s.watch := rfl
@[simp] theorem State.setBlocksStarted_holds (x : Bool) (s : State) : (s.setBlocksStarted x).holds = s.holds := rfl
@[simp] theorem State.setBlocksStarted_reservations (x : Bool) (s : State) : (s.setBlocksStarted x).reservations = s.reservations := rfl
@[simp] theorem State.setBlocksStarted_tip (x : Bool) (s : State) : (s.setBlocksStarted x).tip = s.tip := rfl
@[simp] theorem State.setBlocksStarted_breaker (x : Bool) (s : State) : (s.setBlocksStarted x).breaker = s.breaker := rfl
@[simp] theorem State.setBlocksStarted_gates (x : Bool) (s : State) : (s.setBlocksStarted x).gates = s.gates := rfl
@[simp] theorem State.setBlocksStarted_drawn (x : Bool) (s : State) : (s.setBlocksStarted x).drawn = s.drawn := rfl
@[simp] theorem State.setBlocksStarted_line (x : Bool) (s : State) : (s.setBlocksStarted x).line = s.line := rfl
@[simp] theorem State.setBlocksStarted_peers (x : Bool) (s : State) : (s.setBlocksStarted x).peers = s.peers := rfl
@[simp] theorem State.setBlocksStarted_field (x : Bool) (s : State) : (s.setBlocksStarted x).field = s.field := rfl
@[simp] theorem State.setBlocksStarted_port (x : Bool) (s : State) : (s.setBlocksStarted x).port = s.port := rfl

/-! ## setTime -/

@[simp] theorem State.setTime_pending (x : Nat) (s : State) : (s.setTime x).pending = s.pending := rfl
@[simp] theorem State.setTime_openReads (x : Nat) (s : State) : (s.setTime x).openReads = s.openReads := rfl
@[simp] theorem State.setTime_time (x : Nat) (s : State) : (s.setTime x).time = x := rfl
@[simp] theorem State.setTime_mode (x : Nat) (s : State) : (s.setTime x).mode = s.mode := rfl
@[simp] theorem State.setTime_blocksStarted (x : Nat) (s : State) : (s.setTime x).blocksStarted = s.blocksStarted := rfl
@[simp] theorem State.setTime_restartCauses (x : Nat) (s : State) : (s.setTime x).restartCauses = s.restartCauses := rfl
@[simp] theorem State.setTime_pins (x : Nat) (s : State) : (s.setTime x).pins = s.pins := rfl
@[simp] theorem State.setTime_straps (x : Nat) (s : State) : (s.setTime x).straps = s.straps := rfl
@[simp] theorem State.setTime_store (x : Nat) (s : State) : (s.setTime x).store = s.store := rfl
@[simp] theorem State.setTime_profile (x : Nat) (s : State) : (s.setTime x).profile = s.profile := rfl
@[simp] theorem State.setTime_profileResult (x : Nat) (s : State) : (s.setTime x).profileResult = s.profileResult := rfl
@[simp] theorem State.setTime_column (x : Nat) (s : State) : (s.setTime x).column = s.column := rfl
@[simp] theorem State.setTime_watch (x : Nat) (s : State) : (s.setTime x).watch = s.watch := rfl
@[simp] theorem State.setTime_holds (x : Nat) (s : State) : (s.setTime x).holds = s.holds := rfl
@[simp] theorem State.setTime_reservations (x : Nat) (s : State) : (s.setTime x).reservations = s.reservations := rfl
@[simp] theorem State.setTime_tip (x : Nat) (s : State) : (s.setTime x).tip = s.tip := rfl
@[simp] theorem State.setTime_breaker (x : Nat) (s : State) : (s.setTime x).breaker = s.breaker := rfl
@[simp] theorem State.setTime_gates (x : Nat) (s : State) : (s.setTime x).gates = s.gates := rfl
@[simp] theorem State.setTime_drawn (x : Nat) (s : State) : (s.setTime x).drawn = s.drawn := rfl
@[simp] theorem State.setTime_line (x : Nat) (s : State) : (s.setTime x).line = s.line := rfl
@[simp] theorem State.setTime_peers (x : Nat) (s : State) : (s.setTime x).peers = s.peers := rfl
@[simp] theorem State.setTime_field (x : Nat) (s : State) : (s.setTime x).field = s.field := rfl
@[simp] theorem State.setTime_port (x : Nat) (s : State) : (s.setTime x).port = s.port := rfl

/-! ## setPending -/

@[simp] theorem State.setPending_pending (x : List Instr) (s : State) : (s.setPending x).pending = x := rfl
@[simp] theorem State.setPending_openReads (x : List Instr) (s : State) : (s.setPending x).openReads = s.openReads := rfl
@[simp] theorem State.setPending_time (x : List Instr) (s : State) : (s.setPending x).time = s.time := rfl
@[simp] theorem State.setPending_mode (x : List Instr) (s : State) : (s.setPending x).mode = s.mode := rfl
@[simp] theorem State.setPending_blocksStarted (x : List Instr) (s : State) : (s.setPending x).blocksStarted = s.blocksStarted := rfl
@[simp] theorem State.setPending_restartCauses (x : List Instr) (s : State) : (s.setPending x).restartCauses = s.restartCauses := rfl
@[simp] theorem State.setPending_pins (x : List Instr) (s : State) : (s.setPending x).pins = s.pins := rfl
@[simp] theorem State.setPending_straps (x : List Instr) (s : State) : (s.setPending x).straps = s.straps := rfl
@[simp] theorem State.setPending_store (x : List Instr) (s : State) : (s.setPending x).store = s.store := rfl
@[simp] theorem State.setPending_profile (x : List Instr) (s : State) : (s.setPending x).profile = s.profile := rfl
@[simp] theorem State.setPending_profileResult (x : List Instr) (s : State) : (s.setPending x).profileResult = s.profileResult := rfl
@[simp] theorem State.setPending_column (x : List Instr) (s : State) : (s.setPending x).column = s.column := rfl
@[simp] theorem State.setPending_watch (x : List Instr) (s : State) : (s.setPending x).watch = s.watch := rfl
@[simp] theorem State.setPending_holds (x : List Instr) (s : State) : (s.setPending x).holds = s.holds := rfl
@[simp] theorem State.setPending_reservations (x : List Instr) (s : State) : (s.setPending x).reservations = s.reservations := rfl
@[simp] theorem State.setPending_tip (x : List Instr) (s : State) : (s.setPending x).tip = s.tip := rfl
@[simp] theorem State.setPending_breaker (x : List Instr) (s : State) : (s.setPending x).breaker = s.breaker := rfl
@[simp] theorem State.setPending_gates (x : List Instr) (s : State) : (s.setPending x).gates = s.gates := rfl
@[simp] theorem State.setPending_drawn (x : List Instr) (s : State) : (s.setPending x).drawn = s.drawn := rfl
@[simp] theorem State.setPending_line (x : List Instr) (s : State) : (s.setPending x).line = s.line := rfl
@[simp] theorem State.setPending_peers (x : List Instr) (s : State) : (s.setPending x).peers = s.peers := rfl
@[simp] theorem State.setPending_field (x : List Instr) (s : State) : (s.setPending x).field = s.field := rfl
@[simp] theorem State.setPending_port (x : List Instr) (s : State) : (s.setPending x).port = s.port := rfl

/-! ## setOpenReads -/

@[simp] theorem State.setOpenReads_pending (x : Nat) (s : State) : (s.setOpenReads x).pending = s.pending := rfl
@[simp] theorem State.setOpenReads_openReads (x : Nat) (s : State) : (s.setOpenReads x).openReads = x := rfl
@[simp] theorem State.setOpenReads_time (x : Nat) (s : State) : (s.setOpenReads x).time = s.time := rfl
@[simp] theorem State.setOpenReads_mode (x : Nat) (s : State) : (s.setOpenReads x).mode = s.mode := rfl
@[simp] theorem State.setOpenReads_blocksStarted (x : Nat) (s : State) : (s.setOpenReads x).blocksStarted = s.blocksStarted := rfl
@[simp] theorem State.setOpenReads_restartCauses (x : Nat) (s : State) : (s.setOpenReads x).restartCauses = s.restartCauses := rfl
@[simp] theorem State.setOpenReads_pins (x : Nat) (s : State) : (s.setOpenReads x).pins = s.pins := rfl
@[simp] theorem State.setOpenReads_straps (x : Nat) (s : State) : (s.setOpenReads x).straps = s.straps := rfl
@[simp] theorem State.setOpenReads_store (x : Nat) (s : State) : (s.setOpenReads x).store = s.store := rfl
@[simp] theorem State.setOpenReads_profile (x : Nat) (s : State) : (s.setOpenReads x).profile = s.profile := rfl
@[simp] theorem State.setOpenReads_profileResult (x : Nat) (s : State) : (s.setOpenReads x).profileResult = s.profileResult := rfl
@[simp] theorem State.setOpenReads_column (x : Nat) (s : State) : (s.setOpenReads x).column = s.column := rfl
@[simp] theorem State.setOpenReads_watch (x : Nat) (s : State) : (s.setOpenReads x).watch = s.watch := rfl
@[simp] theorem State.setOpenReads_holds (x : Nat) (s : State) : (s.setOpenReads x).holds = s.holds := rfl
@[simp] theorem State.setOpenReads_reservations (x : Nat) (s : State) : (s.setOpenReads x).reservations = s.reservations := rfl
@[simp] theorem State.setOpenReads_tip (x : Nat) (s : State) : (s.setOpenReads x).tip = s.tip := rfl
@[simp] theorem State.setOpenReads_breaker (x : Nat) (s : State) : (s.setOpenReads x).breaker = s.breaker := rfl
@[simp] theorem State.setOpenReads_gates (x : Nat) (s : State) : (s.setOpenReads x).gates = s.gates := rfl
@[simp] theorem State.setOpenReads_drawn (x : Nat) (s : State) : (s.setOpenReads x).drawn = s.drawn := rfl
@[simp] theorem State.setOpenReads_line (x : Nat) (s : State) : (s.setOpenReads x).line = s.line := rfl
@[simp] theorem State.setOpenReads_peers (x : Nat) (s : State) : (s.setOpenReads x).peers = s.peers := rfl
@[simp] theorem State.setOpenReads_field (x : Nat) (s : State) : (s.setOpenReads x).field = s.field := rfl
@[simp] theorem State.setOpenReads_port (x : Nat) (s : State) : (s.setOpenReads x).port = s.port := rfl

/-! ## mark -/

@[simp] theorem State.mark_pending (k : EventKind) (s : State) : (s.mark k).pending = s.pending := rfl
@[simp] theorem State.mark_openReads (k : EventKind) (s : State) : (s.mark k).openReads = s.openReads := rfl
@[simp] theorem State.mark_time (k : EventKind) (s : State) : (s.mark k).time = s.time := rfl
@[simp] theorem State.mark_mode (k : EventKind) (s : State) : (s.mark k).mode = s.mode := rfl
@[simp] theorem State.mark_blocksStarted (k : EventKind) (s : State) : (s.mark k).blocksStarted = s.blocksStarted := rfl
@[simp] theorem State.mark_restartCauses (k : EventKind) (s : State) : (s.mark k).restartCauses = s.restartCauses := rfl
@[simp] theorem State.mark_pins (k : EventKind) (s : State) : (s.mark k).pins = s.pins := rfl
@[simp] theorem State.mark_straps (k : EventKind) (s : State) : (s.mark k).straps = s.straps := rfl
@[simp] theorem State.mark_store (k : EventKind) (s : State) : (s.mark k).store = s.store := rfl
@[simp] theorem State.mark_profile (k : EventKind) (s : State) : (s.mark k).profile = s.profile := rfl
@[simp] theorem State.mark_profileResult (k : EventKind) (s : State) : (s.mark k).profileResult = s.profileResult := rfl
@[simp] theorem State.mark_column (k : EventKind) (s : State) : (s.mark k).column = s.column := rfl
@[simp] theorem State.mark_watch (k : EventKind) (s : State) : (s.mark k).watch = s.watch := rfl
@[simp] theorem State.mark_holds (k : EventKind) (s : State) : (s.mark k).holds = s.holds := rfl
@[simp] theorem State.mark_reservations (k : EventKind) (s : State) : (s.mark k).reservations = s.reservations := rfl
@[simp] theorem State.mark_tip (k : EventKind) (s : State) : (s.mark k).tip = s.tip := rfl
@[simp] theorem State.mark_breaker (k : EventKind) (s : State) : (s.mark k).breaker = s.breaker := rfl
@[simp] theorem State.mark_gates (k : EventKind) (s : State) : (s.mark k).gates = s.gates := rfl
@[simp] theorem State.mark_drawn (k : EventKind) (s : State) : (s.mark k).drawn = s.drawn := rfl
@[simp] theorem State.mark_line (k : EventKind) (s : State) : (s.mark k).line = s.line := rfl
@[simp] theorem State.mark_peers (k : EventKind) (s : State) : (s.mark k).peers = s.peers := rfl
@[simp] theorem State.mark_field (k : EventKind) (s : State) : (s.mark k).field = s.field := rfl
@[simp] theorem State.mark_port_enabledEvents (k : EventKind) (s : State) : (s.mark k).port.enabledEvents = s.port.enabledEvents := rfl
@[simp] theorem State.mark_port_malformed (k : EventKind) (s : State) : (s.mark k).port.malformed = s.port.malformed := rfl
@[simp] theorem State.mark_port_report (k : EventKind) (s : State) : (s.mark k).port.report = s.port.report := rfl
@[simp] theorem State.mark_port_buffer (k : EventKind) (s : State) : (s.mark k).port.buffer = s.port.buffer := rfl
@[simp] theorem State.mark_port_answer (k : EventKind) (s : State) : (s.mark k).port.answer = s.port.answer := rfl
@[simp] theorem State.mark_port_restartPending (k : EventKind) (s : State) : (s.mark k).port.restartPending = s.port.restartPending := rfl
@[simp] theorem State.mark_port_window (k : EventKind) (s : State) : (s.mark k).port.window = s.port.window := rfl
@[simp] theorem State.mark_port_pendingEvents (k : EventKind) (s : State) :
    (s.mark k).port.pendingEvents = s.port.pendingEvents ||| k.flag := rfl

/-! ## Pairs -/

@[simp] theorem PerGate.get_modify_same (g : Gate) (f : α → α) (p : PerGate α) : (p.modify g f).get g = f (p.get g) := by
  cases g <;> rfl
theorem PerGate.get_modify_other {g h : Gate} (hne : h ≠ g) (f : α → α) (p : PerGate α) :
    (p.modify g f).get h = p.get h := by
  cases g <;> cases h <;> first | rfl | exact absurd rfl hne

end Sys2Proof.Machine
end

