-- ==== Sys2Proof/Laws/Frames.lean ====
section
/-! SUPPORT. What no shared operation of the blocks touches: the queue of commands, station time, mode, straps,
store, profile, peer table, field terminal, and the panel port but for the pending events. -/

namespace Sys2Proof.Machine

/-- The state with everything blanked that the shared operations of the column, the watch, the holds, the
reservations, the sequencers and the line may change; what is left, they leave as it is. -/
def State.outer (s : State) : State :=
  { s with
    restartCauses := Causes.none, column := Column.cold, watch := Watch.restarted, holds := [], reservations := []
    tip := Tip.restarted 0, breaker := Breaker.restarted false
    gates := ⟨GateSeq.restarted false false, GateSeq.restarted false false⟩
    drawn := ⟨0, 0, false⟩, line := Line.restarted
    port := { s.port with pendingEvents := 0#12 } }

theorem outer_pending {s t : State} (h : t.outer = s.outer) : t.pending = s.pending :=
  by
  have := congrArg (fun x : State => x.pending) h; exact this
theorem outer_openReads {s t : State} (h : t.outer = s.outer) : t.openReads = s.openReads :=
  by
  have := congrArg (fun x : State => x.openReads) h; exact this
theorem outer_time {s t : State} (h : t.outer = s.outer) : t.time = s.time := by
  have := congrArg (fun x : State => x.time) h; exact this
theorem outer_mode {s t : State} (h : t.outer = s.outer) : t.mode = s.mode := by
  have := congrArg (fun x : State => x.mode) h; exact this
theorem outer_blocksStarted {s t : State} (h : t.outer = s.outer) : t.blocksStarted = s.blocksStarted :=
  by
  have := congrArg (fun x : State => x.blocksStarted) h; exact this
theorem outer_pins {s t : State} (h : t.outer = s.outer) : t.pins = s.pins := by
  have := congrArg (fun x : State => x.pins) h; exact this
theorem outer_straps {s t : State} (h : t.outer = s.outer) : t.straps = s.straps :=
  by
  have := congrArg (fun x : State => x.straps) h; exact this
theorem outer_store {s t : State} (h : t.outer = s.outer) : t.store = s.store := by
  have := congrArg (fun x : State => x.store) h; exact this
theorem outer_profile {s t : State} (h : t.outer = s.outer) : t.profile = s.profile :=
  by
  have := congrArg (fun x : State => x.profile) h; exact this
theorem outer_peers {s t : State} (h : t.outer = s.outer) : t.peers = s.peers := by
  have := congrArg (fun x : State => x.peers) h; exact this
theorem outer_field {s t : State} (h : t.outer = s.outer) : t.field = s.field := by
  have := congrArg (fun x : State => x.field) h; exact this
theorem outer_answer {s t : State} (h : t.outer = s.outer) : t.port.answer = s.port.answer :=
  by
  have := congrArg (fun x : State => x.port.answer) h; exact this
theorem outer_report {s t : State} (h : t.outer = s.outer) : t.port.report = s.port.report :=
  by
  have := congrArg (fun x : State => x.port.report) h; exact this
theorem outer_buffer {s t : State} (h : t.outer = s.outer) : t.port.buffer = s.port.buffer :=
  by
  have := congrArg (fun x : State => x.port.buffer) h; exact this
theorem outer_prof {s t : State} (h : t.outer = s.outer) : t.prof = s.prof := by
  simp [State.prof, outer_profile h]
theorem outer_own {s t : State} (h : t.outer = s.outer) : t.own = s.own := by simp [State.own, outer_straps h]

/-! ## Updates of the inner blocks -/

@[simp] theorem setColumnRecord_outer (c : Column) (s : State) : (s.setColumnRecord c).outer = s.outer := rfl
@[simp] theorem setWatch_outer (w : Watch) (s : State) : (s.setWatch w).outer = s.outer := rfl
@[simp] theorem setHolds_outer (l : List Hold) (s : State) : (s.setHolds l).outer = s.outer := rfl
@[simp] theorem setReservations_outer (l : List Reservation) (s : State) :
    (s.setReservations l).outer = s.outer := rfl
@[simp] theorem setTip_outer (x : Tip) (s : State) : (s.setTip x).outer = s.outer := rfl
@[simp] theorem setBreaker_outer (x : Breaker) (s : State) : (s.setBreaker x).outer = s.outer := rfl
@[simp] theorem setGates_outer (x : PerGate GateSeq) (s : State) : (s.setGates x).outer = s.outer := rfl
@[simp] theorem setDrawn_outer (x : DrawTotals) (s : State) : (s.setDrawn x).outer = s.outer := rfl
@[simp] theorem setLine_outer (x : Line) (s : State) : (s.setLine x).outer = s.outer := rfl
@[simp] theorem setRestartCauses_outer (x : Causes) (s : State) : (s.setRestartCauses x).outer = s.outer := rfl
@[simp] theorem mark_outer (k : EventKind) (s : State) : (s.mark k).outer = s.outer := rfl

/-! ## Column model -/

@[simp] theorem evaluateWet_outer (s : State) : s.evaluateWet.outer = s.outer := by
  unfold State.evaluateWet; split <;> rfl
@[simp] theorem setColumn_outer (c : Column) (s : State) : (s.setColumn c).outer = s.outer := by
  unfold State.setColumn; split
  · rfl
  · simp
@[simp] theorem modelEvent_outer (r : ModelReason) (s : State) : (s.modelEvent r).outer = s.outer := rfl
@[simp] theorem addLayers_outer (l : List Segment) (s : State) : (s.addLayers l).outer = s.outer := by
  unfold State.addLayers; split
  · dsimp only; split <;> simp
  · rfl
@[simp] theorem drawIncrement_outer (m : Nat) (s : State) : (s.drawIncrement m).outer = s.outer := by
  unfold State.drawIncrement; split
  · rfl
  · dsimp only; split <;> simp
@[simp] theorem reanchor_outer (d : Nat) (s : State) : (s.reanchor d).outer = s.outer := by
  unfold State.reanchor; dsimp only; split <;> simp
@[simp] theorem recordReading_outer (d : Nat) (q : Quality) (n : Nat) (x : Disposition) (s : State) :
    (s.recordReading d q n x).outer = s.outer := rfl
@[simp] theorem seedWith_outer (l : List Segment) (s : State) : (s.seedWith l).outer = s.outer := by
  simp [State.seedWith]
@[simp] theorem seedSurface_outer (d : Nat) (s : State) : (s.seedSurface d).outer = s.outer := by
  simp [State.seedSurface]
@[simp] theorem seedState_outer (v w : Nat) (s : State) : (s.seedState v w).outer = s.outer := by
  simp [State.seedState]

/-! ## Transmit queue -/

@[simp] theorem tipEnd_outer (o : Outcome) (l : Load) (s : State) : (s.tipEnd o l).outer = s.outer := rfl
@[simp] theorem dropReservation_outer (n : Nat) (s : State) : (s.dropReservation n).outer = s.outer := rfl
@[simp] theorem frameLost_outer (f : Frame) (s : State) : (s.frameLost f).outer = s.outer := by
  unfold State.frameLost; split
  · split <;> simp
  · rfl
  · simp
  all_goals rfl
@[simp] theorem enqueue_outer (f : Frame) (s : State) : (s.enqueue f).outer = s.outer := by
  unfold State.enqueue; split <;> simp
@[simp] theorem handOver_outer (f : Frame) (s : State) : (s.handOver f).outer = s.outer := by
  unfold State.handOver; split
  · rfl
  · simp
  · split <;> simp
@[simp] theorem beginAttempt_outer (q : QueuedFrame) (s : State) : (s.beginAttempt q).outer = s.outer := rfl
@[simp] theorem startAttempt_outer (s : State) : s.startAttempt.outer = s.outer := by
  unfold State.startAttempt; split
  · rfl
  · split <;> simp
theorem foldl_outer {α : Type} (f : State → α → State) (h : ∀ s x, (f s x).outer = s.outer) (l : List α) (s : State) :
    (l.foldl f s).outer = s.outer := by
  induction l generalizing s with
  | nil => rfl
  | cons x xs ih => simp [ih, h]
@[simp] theorem settleWaiting_outer (s : State) : s.settleWaiting.outer = s.outer := by
  unfold State.settleWaiting
  rw [foldl_outer _ (fun s x => handOver_outer x s)]; rfl
@[simp] theorem loseArbitration_outer (s : State) : s.loseArbitration.outer = s.outer := by
  unfold State.loseArbitration; split <;> simp
@[simp] theorem returnActive_outer (s : State) : s.returnActive.outer = s.outer := by
  unfold State.returnActive; split <;> rfl
theorem ownArrival_outer (k : FrameKind) (act : Frame → State → State) (h : ∀ f t, (act f t).outer = t.outer)
    (s : State) : (s.ownArrival k act).outer = s.outer := by
  unfold State.ownArrival; split
  · split
    · simp [h]
    · rfl
  · rfl

/-! ## Tip sequencer and reservation list -/

@[simp] theorem setStage_outer (x : TipStage) (s : State) : (s.setStage x).outer = s.outer := rfl
@[simp] theorem removeOffer_outer (s : State) : s.removeOffer.outer = s.outer := rfl
@[simp] theorem revokeOffer_outer (c : WithdrawCause) (s : State) : (s.revokeOffer c).outer = s.outer := by
  unfold State.revokeOffer; split <;> simp
@[simp] theorem withdrawTip_outer (c : WithdrawCause) (s : State) : (s.withdrawTip c).outer = s.outer := by
  unfold State.withdrawTip; split
  · dsimp only; split <;> simp
  · dsimp only; split <;> simp
  all_goals rfl
@[simp] theorem enterTipping_outer (l : Load) (s : State) : (s.enterTipping l).outer = s.outer := rfl
@[simp] theorem countLoad_outer (l : Load) (s : State) : (s.countLoad l).outer = s.outer := by
  simp [State.countLoad]
@[simp] theorem informBreakerOut_outer (s : State) : s.informBreakerOut.outer = s.outer := by
  unfold State.informBreakerOut; split <;> simp
@[simp] theorem informBreakerIn_outer (s : State) : s.informBreakerIn.outer = s.outer := by
  unfold State.informBreakerIn; split <;> rfl
@[simp] theorem recheckTip_outer (s : State) : s.recheckTip.outer = s.outer := by
  unfold State.recheckTip; split
  · split <;> simp
  all_goals rfl
@[simp] theorem addReservation_outer (n c v : Nat) (s : State) : (s.addReservation n c v).outer = s.outer := rfl
@[simp] theorem judgeOffer_outer (n c v : Nat) (s : State) : (s.judgeOffer n c v).outer = s.outer := by
  unfold State.judgeOffer; split
  · dsimp only; split <;> simp
  · rfl
@[simp] theorem reconcileReservation_outer (n : Nat) (d : Option (Nat × Nat)) (s : State) :
    (s.reconcileReservation n d).outer = s.outer := by
  unfold State.reconcileReservation; split
  · rfl
  · split <;> rfl
@[simp] theorem ownOfferJudged_outer (s : State) : s.ownOfferJudged.outer = s.outer := by
  unfold State.ownOfferJudged; split
  · split
    · rfl
    · simp
  all_goals rfl

/-! ## Breaker sequencer -/

@[simp] theorem enterBreaker_outer (b : BreakerState) (s : State) : (s.enterBreaker b).outer = s.outer := by
  unfold State.enterBreaker; dsimp only; split <;> rfl
@[simp] theorem parkBreaker_outer (s : State) : s.parkBreaker.outer = s.outer := by simp [State.parkBreaker]
@[simp] theorem recordWorkEnd_outer (c : WorkEnd) (s : State) : (s.recordWorkEnd c).outer = s.outer := rfl
@[simp] theorem endBreakerWork_outer (c : WorkEnd) (s : State) : (s.endBreakerWork c).outer = s.outer := by
  unfold State.endBreakerWork; split
  · dsimp only; split <;> simp
  all_goals rfl
@[simp] theorem dropBreaker_outer (s : State) : s.dropBreaker.outer = s.outer := by
  unfold State.dropBreaker; split <;> simp
@[simp] theorem breakerLoopOpens_outer (s : State) : s.breakerLoopOpens.outer = s.outer := by
  unfold State.breakerLoopOpens; split <;> simp

/-! ## Gate sequencers -/

@[simp] theorem updateGate_outer (g : Gate) (f : GateSeq → GateSeq) (s : State) :
    (s.updateGate g f).outer = s.outer := rfl
@[simp] theorem setWindow_outer (g : Gate) (w : Window) (s : State) : (s.setWindow g w).outer = s.outer := rfl
@[simp] theorem stopWindow_outer (g : Gate) (s : State) : (s.stopWindow g).outer = s.outer := rfl
@[simp] theorem startWindow_outer (g : Gate) (s : State) : (s.startWindow g).outer = s.outer := rfl
@[simp] theorem stopOpenWindow_outer (g : Gate) (s : State) : (s.stopOpenWindow g).outer = s.outer := by
  unfold State.stopOpenWindow; split <;> rfl
@[simp] theorem startWetRest_outer (w : Bool) (s : State) : (s.startWetRest w).outer = s.outer := by
  unfold State.startWetRest; split <;> rfl
@[simp] theorem formDrawn_outer (s : State) : s.formDrawn.outer = s.outer := by simp [State.formDrawn]
@[simp] theorem formDrawnIfAdvanced_outer (s : State) : s.formDrawnIfAdvanced.outer = s.outer := by
  unfold State.formDrawnIfAdvanced; split <;> simp
@[simp] theorem enterClosed_outer (g : Gate) (s : State) : (s.enterClosed g).outer = s.outer := by
  simp [State.enterClosed]
@[simp] theorem beginClosing_outer (g : Gate) (s : State) : (s.beginClosing g).outer = s.outer := by
  unfold State.beginClosing; dsimp only; split <;> simp
@[simp] theorem endDraw_outer (c : EndCause) (g : Gate) (s : State) : (s.endDraw c g).outer = s.outer := by
  unfold State.endDraw; dsimp only; split <;> simp
@[simp] theorem beginOpening_outer (g : Gate) (s : State) : (s.beginOpening g).outer = s.outer := rfl
@[simp] theorem endDrawIf_outer (c : Option EndCause) (g : Gate) (s : State) :
    (s.endDrawIf c g).outer = s.outer := by
  unfold State.endDrawIf; split <;> simp
@[simp] theorem noteWet_outer (s before : State) : (s.noteWet before).outer = s.outer := by
  unfold State.noteWet; split <;> simp
@[simp] theorem informGates_outer (s before : State) : (s.informGates before).outer = s.outer := by
  simp [State.informGates]

/-! ## Hold list and gate faults -/

@[simp] theorem tipHoldEffects_outer (n : Nat) (k : HoldKind) (s : State) :
    (s.tipHoldEffects n k).outer = s.outer := by
  unfold State.tipHoldEffects; split
  · simp
  · split <;> simp
  · simp
@[simp] theorem gateHoldEffects_outer (s : State) : s.gateHoldEffects.outer = s.outer := by
  simp [State.gateHoldEffects]
@[simp] theorem holdEffects_outer (n : Nat) (k : HoldKind) (s : State) : (s.holdEffects n k).outer = s.outer := by
  unfold State.holdEffects; split <;> simp
@[simp] theorem queueHold_outer (f : Frame) (s : State) : (s.queueHold f).outer = s.outer := by
  unfold State.queueHold; split <;> simp
@[simp] theorem reportHold_outer (n : Nat) (f : Frame) (s : State) : (s.reportHold n f).outer = s.outer := by
  unfold State.reportHold; split <;> simp
@[simp] theorem holdChanged_outer (n : Nat) (b : HoldBody) (l : List Hold) (s : State) :
    (s.holdChanged n b l).outer = s.outer := by simp [State.holdChanged]
@[simp] theorem enterHold_outer (n : Nat) (b : HoldBody) (s : State) : (s.enterHold n b).outer = s.outer := by
  unfold State.enterHold; split
  · simp
  · split <;> simp
@[simp] theorem removeHold_outer (n : Nat) (k : HoldKind) (s : State) : (s.removeHold n k).outer = s.outer := by
  unfold State.removeHold; split <;> simp
@[simp] theorem reconcileHold_outer (n : Nat) (k : HoldKind) (b : Option HoldBody) (s : State) :
    (s.reconcileHold n k b).outer = s.outer := by
  unfold State.reconcileHold; split <;> simp
@[simp] theorem reconcileHolds_outer (n : Nat) (p : StatePayload) (s : State) :
    (s.reconcileHolds n p).outer = s.outer := by simp [State.reconcileHolds]
@[simp] theorem addOwnCause_outer (c : Causes) (s : State) : (s.addOwnCause c).outer = s.outer := by
  unfold State.addOwnCause; split <;> simp
@[simp] theorem failGate_outer (c : GateFault) (g : Gate) (s : State) : (s.failGate c g).outer = s.outer := by
  unfold State.failGate; dsimp only; split <;> simp
@[simp] theorem reportUnproven_outer (g : Gate) (s : State) : (s.reportUnproven g).outer = s.outer := by
  unfold State.reportUnproven; split <;> simp
@[simp] theorem enterFault_outer (c : GateFault) (g : Gate) (s : State) : (s.enterFault c g).outer = s.outer := by
  simp [State.enterFault]
@[simp] theorem loopEndsDraw_outer (g : Gate) (s : State) : (s.loopEndsDraw g).outer = s.outer := by
  unfold State.loopEndsDraw; split <;> simp
@[simp] theorem gateLoopOpens_outer (g : Gate) (s : State) : (s.gateLoopOpens g).outer = s.outer := by
  unfold State.gateLoopOpens; split
  · split
    · simp
    · split <;> simp
  · rfl
@[simp] theorem reportLoopFault_outer (s before : State) (g : Gate) :
    (s.reportLoopFault before g).outer = s.outer := by
  unfold State.reportLoopFault; split <;> simp
@[simp] theorem drawLoopOpens_outer (s : State) : s.drawLoopOpens.outer = s.outer := by simp [State.drawLoopOpens]
@[simp] theorem tipLoopOpens_outer (s : State) : s.tipLoopOpens.outer = s.outer := by simp [State.tipLoopOpens]

/-! ## Watch unit and line -/

@[simp] theorem setGap_outer (d : Nat) (s : State) : (s.setGap d).outer = s.outer := rfl
@[simp] theorem raiseRanging_outer (d : Nat) (s : State) : (s.raiseRanging d).outer = s.outer := by
  simp [State.raiseRanging]
@[simp] theorem raiseStarved_outer (g : Gate) (s : State) : (s.raiseStarved g).outer = s.outer := by
  unfold State.raiseStarved; split <;> simp
@[simp] theorem liftHangup_outer (s : State) : s.liftHangup.outer = s.outer := by simp [State.liftHangup]
@[simp] theorem reanchorReading_outer (n d : Nat) (q : Quality) (s : State) :
    (s.reanchorReading n d q).outer = s.outer := by simp [State.reanchorReading]
@[simp] theorem holdReading_outer (n d : Nat) (q : Quality) (s : State) : (s.holdReading n d q).outer = s.outer := rfl
@[simp] theorem applyDecision_outer (x : Decision) (n d : Nat) (q : Quality) (s : State) :
    (s.applyDecision x n d q).outer = s.outer := by
  unfold State.applyDecision; split <;> simp
@[simp] theorem takeSurface_outer (n d : Nat) (q : Quality) (s : State) : (s.takeSurface n d q).outer = s.outer := by
  unfold State.takeSurface; split
  · split <;> simp
  · simp
@[simp] theorem handOverSurface_outer (d : Nat) (q : Quality) (s : State) :
    (s.handOverSurface d q).outer = s.outer := by
  unfold State.handOverSurface; split <;> simp
@[simp] theorem removedAtIsolation_outer (f : Frame) (s : State) : (s.removedAtIsolation f).outer = s.outer := by
  unfold State.removedAtIsolation; split <;> simp
@[simp] theorem enterIsolated_outer (s : State) : s.enterIsolated.outer = s.outer := by
  unfold State.enterIsolated; dsimp only
  rw [foldl_outer _ (fun s x => removedAtIsolation_outer x s)]; simp
@[simp] theorem failRetry_outer (s : State) : s.failRetry.outer = s.outer := by simp [State.failRetry]
@[simp] theorem isolateAtThird_outer (s : State) : s.isolateAtThird.outer = s.outer := by
  unfold State.isolateAtThird; split <;> simp
@[simp] theorem discard_outer (p : QueuedFrame → Bool) (f : Frame) (s : State) : (s.discard p f).outer = s.outer := by
  simp [State.discard]
@[simp] theorem failAttempt_outer (p : QueuedFrame → Bool) (s : State) : (s.failAttempt p).outer = s.outer := by
  unfold State.failAttempt; split
  · rfl
  · dsimp only; split
    · simp
    · split <;> simp

/-! ## The end of an event -/

@[simp] theorem inform_outer (s before : State) : (s.inform before).outer = s.outer := by
  unfold State.inform; split
  · split <;> simp
  · simp

/-- Where neither the column, the reservations nor the wet status changed, the sequencers have nothing to do. -/
theorem inform_same {s before : State} (hc : s.column = before.column) (hr : s.reservations = before.reservations)
    (hw : s.watch.wet = before.watch.wet) : s.inform before = s := by
  have hcc : columnChanged before s = false := by simp [columnChanged, hc]
  unfold State.inform
  split
  · simp [State.roomChanged, hcc, hr]
  · simp [State.informGates, State.noteWet, hw, State.informedCause, State.wetEnds, State.cushionEnds, hcc,
      State.endDrawIf]

/-- At a TIP station whose tip is not OFFERED the sequencers have nothing to do. -/
theorem inform_not_offered {s before : State} (hr : s.straps.role = .tip) (h : s.tip.stage.isOffered = false) :
    s.inform before = s := by
  unfold State.inform
  rw [hr]; dsimp only
  split
  · unfold State.recheckTip; split <;> simp_all [TipStage.isOffered]
  · rfl

end Sys2Proof.Machine
end

