-- ==== Sys2Proof/Laws/Memory.lean ====
section
/-! SUPPORT. The addressed buffers: every operation keeps the canonical form, a read gives what was last written, and
a write leaves every other address. -/

namespace Sys2Proof.Machine

theorem wfFrom_mono {low high : Nat} {m : Memory} (hle : low ≤ high) (h : Memory.wfFrom high m = true) :
    Memory.wfFrom low m = true := by
  cases m with
  | nil => rfl
  | cons c rest =>
    obtain ⟨x, v⟩ := c
    simp only [Memory.wfFrom, Bool.and_eq_true, decide_eq_true_eq] at h ⊢
    exact ⟨⟨by omega, h.1.2⟩, h.2⟩

theorem read_below {low : Nat} {m : Memory} (h : Memory.wfFrom low m = true) {a : Nat} (ha : a < low) :
    m.read a = 0#8 := by
  induction m generalizing low with
  | nil => rfl
  | cons c rest ih =>
    obtain ⟨x, v⟩ := c
    simp only [Memory.wfFrom, Bool.and_eq_true, decide_eq_true_eq] at h
    have hx : ¬x = a := by omega
    simpa [Memory.read, hx] using ih h.2 (by omega)

theorem write_wfFrom {low : Nat} {m : Memory} (h : Memory.wfFrom low m = true) {a : Nat} (b : Byte) (ha : low ≤ a) :
    Memory.wfFrom low (m.write a b) = true := by
  induction m generalizing low with
  | nil => by_cases hb : b = 0#8 <;> simp [Memory.write, Memory.wfFrom, hb, ha]
  | cons c rest ih =>
    obtain ⟨x, v⟩ := c
    have h' := h
    simp only [Memory.wfFrom, Bool.and_eq_true, decide_eq_true_eq] at h'
    unfold Memory.write
    split
    · split
      · exact h
      · rename_i hlt hb
        simp only [Memory.wfFrom, Bool.and_eq_true, decide_eq_true_eq, bne_iff_ne]
        exact ⟨⟨ha, hb⟩, ⟨by omega, by simpa using h'.1.2⟩, h'.2⟩
    · split
      · rename_i hax
        subst hax
        split
        · exact wfFrom_mono (by omega) h'.2
        · rename_i hb
          simp only [Memory.wfFrom, Bool.and_eq_true, decide_eq_true_eq, bne_iff_ne]
          exact ⟨⟨ha, hb⟩, h'.2⟩
      · simp only [Memory.wfFrom, Bool.and_eq_true, decide_eq_true_eq]
        exact ⟨h'.1, ih h'.2 (by omega)⟩

/-- A write keeps the canonical form. -/
theorem write_wf {m : Memory} (h : m.wf = true) (a : Nat) (b : Byte) : (m.write a b).wf = true :=
  write_wfFrom h b (Nat.zero_le a)

/-- Writing many bytes keeps the canonical form. -/
theorem writeAll_wf {m : Memory} (h : m.wf = true) (a : Nat) (bs : List Byte) : (m.writeAll a bs).wf = true := by
  induction bs generalizing m a with
  | nil => exact h
  | cons b bs ih => exact ih (write_wf h a b) (a + 1)

theorem read_write_from {low : Nat} {m : Memory} (h : Memory.wfFrom low m = true) (a : Nat) (b : Byte) (x : Nat) :
    (m.write a b).read x = if x = a then b else m.read x := by
  induction m generalizing low with
  | nil =>
    by_cases hx : x = a
    · subst hx
      by_cases hb : b = 0#8 <;> simp [Memory.write, Memory.read, hb]
    · have : ¬a = x := fun e => hx e.symm
      by_cases hb : b = 0#8 <;> simp [Memory.write, Memory.read, hb, hx, this]
  | cons c rest ih =>
    obtain ⟨y, v⟩ := c
    have h' := h
    simp only [Memory.wfFrom, Bool.and_eq_true, decide_eq_true_eq] at h'
    unfold Memory.write
    split
    · rename_i hlt
      by_cases hx : x = a
      · subst hx
        have hy : ¬y = x := by omega
        have h0 : Memory.read rest x = 0#8 := read_below h'.2 (by omega)
        by_cases hb : b = 0#8 <;> simp [Memory.read, hb, hy, h0]
      · have hxa : ¬a = x := fun e => hx e.symm
        by_cases hb : b = 0#8 <;> simp [Memory.read, hb, hx, hxa]
    · split
      · rename_i hax
        subst hax
        by_cases hx : x = a
        · subst hx
          have h0 : Memory.read rest x = 0#8 := read_below h'.2 (by omega)
          by_cases hb : b = 0#8 <;> simp [Memory.read, hb, h0]
        · have hxa : ¬a = x := fun e => hx e.symm
          by_cases hb : b = 0#8 <;> simp [Memory.read, hb, hx, hxa]
      · rename_i hlt hne
        by_cases hy : y = x
        · subst hy
          have : ¬y = a := fun e => hne e.symm
          simp [Memory.read, this]
        · simp [Memory.read, hy, ih h'.2]

/-- A read after a write: the byte written at its address, what stood before at every other. -/
theorem read_write {m : Memory} (h : m.wf = true) (a : Nat) (b : Byte) (x : Nat) :
    (m.write a b).read x = if x = a then b else m.read x := read_write_from h a b x

/-- A read after many bytes were written: the byte of its place, what stood before outside them. -/
theorem read_writeAll {m : Memory} (h : m.wf = true) (a : Nat) (bs : List Byte) (x : Nat) :
    (m.writeAll a bs).read x = if a ≤ x ∧ x < a + bs.length then bs.getD (x - a) 0#8 else m.read x := by
  induction bs generalizing m a with
  | nil =>
    have hn : ¬(a ≤ x ∧ x < a + ([] : List Byte).length) := by simp only [List.length_nil]; omega
    rw [if_neg hn]; rfl
  | cons b bs ih =>
    simp only [Memory.writeAll, ih (write_wf h a b), read_write h, List.length_cons]
    by_cases hxa : x = a
    · subst hxa
      have h1 : ¬(x + 1 ≤ x ∧ x < x + 1 + bs.length) := by omega
      have h2 : x ≤ x ∧ x < x + (bs.length + 1) := by omega
      rw [if_neg h1, if_pos rfl, if_pos h2, Nat.sub_self]
      rfl
    · by_cases hin : a + 1 ≤ x ∧ x < a + 1 + bs.length
      · have h2 : a ≤ x ∧ x < a + (bs.length + 1) := by omega
        obtain ⟨k, hk⟩ : ∃ k, x - a = k + 1 := ⟨x - a - 1, by omega⟩
        have hk' : x - (a + 1) = k := by omega
        rw [if_pos hin, if_pos h2, hk, hk']
        rfl
      · have h2 : ¬(a ≤ x ∧ x < a + (bs.length + 1)) := by omega
        rw [if_neg hin, if_neg hxa, if_neg h2]

/-- A write stays below a bound that holds for the buffer and the address. -/
theorem write_bounded {m : Memory} {n : Nat} (h : ∀ c ∈ m, c.1 < n) {a : Nat} (ha : a < n) (b : Byte) :
    ∀ c ∈ m.write a b, c.1 < n := by
  induction m with
  | nil =>
    intro c hc
    by_cases hb : b = 0#8
    · simp [Memory.write, hb] at hc
    · simp only [Memory.write, hb, if_false, List.mem_singleton] at hc
      rw [hc]; exact ha
  | cons d rest ih =>
    obtain ⟨x, v⟩ := d
    have hx := h (x, v) (by simp)
    have hr : ∀ c ∈ rest, c.1 < n := fun c hc => h c (by simp [hc])
    intro c hc
    unfold Memory.write at hc
    split at hc
    · split at hc
      · exact h c hc
      · rcases List.mem_cons.mp hc with rfl | hc
        · exact ha
        · exact h c hc
    · split at hc
      · split at hc
        · exact hr c hc
        · rcases List.mem_cons.mp hc with rfl | hc
          · exact ha
          · exact hr c hc
      · rcases List.mem_cons.mp hc with rfl | hc
        · exact hx
        · exact ih hr c hc

/-- Right after reset both buffers are in canonical form. -/
theorem reset_buffers_wf : State.reset.port.buffer.wf = true ∧ State.reset.store.image.wf = true := ⟨rfl, rfl⟩

end Sys2Proof.Machine
end

