-- ==== Sys2Proof/Laws/PerInstr.lean ====
section
/-! SUPPORT. One lemma per command: its message on the panel link, where it is one, is of 4 to 40 bytes, so that the one
length byte tells its length (R187). -/

namespace Sys2Proof.Laws

open Sys2Proof

/-- The message of a command that can come about is of 4 to 40 bytes. -/
def MessageFits.Statement (i : Instr) : Prop :=
  ∀ m, i.wellFormed = true → encodeMessage i = some m → 4 ≤ m.length ∧ m.length ≤ longestUnknown

theorem messageBytes_length (code : Byte) (fields : List Byte) :
    (messageBytes code fields).length = fields.length + 4 := by
  simp [messageBytes, Machine.nat1, Machine.bytes2]

/-- A command whose fields are at most 36 bytes has a message that fits. -/
theorem fits_of_fields {i : Instr} (h : ∀ f, i.wellFormed = true → messageFields i = some f → f.2.length ≤ 36) :
    MessageFits.Statement i := by
  intro m hw he
  unfold encodeMessage at he
  cases hf : messageFields i with
  | none => rw [hf] at he; cases he
  | some f =>
    rw [hf] at he
    cases he
    rw [messageBytes_length]
    have := h f hw hf
    simp only [longestUnknown]; omega

theorem fits_of_none {i : Instr} (h : messageFields i = none) : MessageFits.Statement i :=
  fits_of_fields (fun _ _ e => by rw [h] at e; cases e)

theorem fits_of_some {i : Instr} {f : Byte × List Byte} (h : messageFields i = some f) (hl : f.2.length ≤ 36) :
    MessageFits.Statement i :=
  fits_of_fields (fun _ _ e => by rw [h] at e; cases e; exact hl)

theorem MessageFits.tip (cls moisture : Byte) : MessageFits.Statement (.tip cls moisture) :=
  fits_of_some rfl (by simp)
theorem MessageFits.tipCancel : MessageFits.Statement (.tipCancel) := fits_of_some rfl (by decide)
theorem MessageFits.breakWork : MessageFits.Statement (.breakWork) := fits_of_some rfl (by decide)
theorem MessageFits.breakRenew (token : Byte) : MessageFits.Statement (.breakRenew token) :=
  fits_of_some rfl (by simp)
theorem MessageFits.breakStop : MessageFits.Statement (.breakStop) := fits_of_some rfl (by decide)
theorem MessageFits.draw (gate mode : Byte) (target : Option Word16) :
    MessageFits.Statement (.draw gate mode target) := by
  cases target <;> exact fits_of_some rfl (by simp [Machine.bytes2])
theorem MessageFits.drawRenew (gate token : Byte) : MessageFits.Statement (.drawRenew gate token) :=
  fits_of_some rfl (by simp)
theorem MessageFits.drawStop (gate : Byte) : MessageFits.Statement (.drawStop gate) := fits_of_some rfl (by simp)
theorem MessageFits.gateReset (gate : Byte) : MessageFits.Statement (.gateReset gate) := fits_of_some rfl (by simp)
theorem MessageFits.halt : MessageFits.Statement (.halt) := fits_of_some rfl (by decide)
theorem MessageFits.haltRelease : MessageFits.Statement (.haltRelease) := fits_of_some rfl (by decide)
theorem MessageFits.entry : MessageFits.Statement (.entry) := fits_of_some rfl (by decide)
theorem MessageFits.entryRelease : MessageFits.Statement (.entryRelease) := fits_of_some rfl (by decide)
theorem MessageFits.hangupClear : MessageFits.Statement (.hangupClear) := fits_of_some rfl (by decide)
theorem MessageFits.seed (depth : Word16) : MessageFits.Statement (.seed depth) :=
  fits_of_some rfl (by simp [Machine.bytes2])
theorem MessageFits.status (first : Option (Byte × Byte)) : MessageFits.Statement (.status first) := by
  cases first <;> exact fits_of_some rfl (by simp)
theorem MessageFits.report (kind : Byte) : MessageFits.Statement (.report kind) := fits_of_some rfl (by simp)
theorem MessageFits.reportNext : MessageFits.Statement (.reportNext) := fits_of_some rfl (by decide)
theorem MessageFits.events : MessageFits.Statement (.events) := fits_of_some rfl (by decide)
theorem MessageFits.eventAck (kinds : Word16) : MessageFits.Statement (.eventAck kinds) :=
  fits_of_some rfl (by simp [Machine.bytes2])
theorem MessageFits.eventEnable (kinds : Word16) : MessageFits.Statement (.eventEnable kinds) :=
  fits_of_some rfl (by simp [Machine.bytes2])
theorem MessageFits.profileLoad (offset : Word16) (bytes : List Byte) :
    MessageFits.Statement (.profileLoad offset bytes) := by
  intro m hw he
  cases he
  rw [messageBytes_length]
  have hl : bytes.length ≤ 32 := by
    have h : sliceOk bytes = true := hw
    simp only [sliceOk, Bool.and_eq_true, decide_eq_true_eq] at h
    exact h.2
  simp only [longestUnknown, Machine.bytes2, List.cons_append, List.nil_append, List.length_cons]
  omega
theorem MessageFits.profileCommit : MessageFits.Statement (.profileCommit) := fits_of_some rfl (by decide)
theorem MessageFits.restart : MessageFits.Statement (.restart) := fits_of_some rfl (by decide)
theorem MessageFits.malformedMessage : MessageFits.Statement (.malformedMessage) := fits_of_none rfl
theorem MessageFits.unknownRequest (what : UnknownMessage) : MessageFits.Statement (.unknownRequest what) := by
  cases what <;> exact fits_of_some rfl (by simp)
theorem MessageFits.holdSetArrival (f : Inbound HoldSetPayload) : MessageFits.Statement (.holdSetArrival f) :=
  fits_of_none rfl
theorem MessageFits.holdLiftArrival (f : Inbound Byte) : MessageFits.Statement (.holdLiftArrival f) :=
  fits_of_none rfl
theorem MessageFits.offerArrival (f : Inbound OfferPayload) : MessageFits.Statement (.offerArrival f) :=
  fits_of_none rfl
theorem MessageFits.withdrawArrival (f : Inbound Byte) : MessageFits.Statement (.withdrawArrival f) :=
  fits_of_none rfl
theorem MessageFits.tippedArrival (f : Inbound TippedPayload) : MessageFits.Statement (.tippedArrival f) :=
  fits_of_none rfl
theorem MessageFits.drawnArrival (f : Inbound DrawnPayload) : MessageFits.Statement (.drawnArrival f) :=
  fits_of_none rfl
theorem MessageFits.surfaceArrival (f : Inbound SurfacePayload) : MessageFits.Statement (.surfaceArrival f) :=
  fits_of_none rfl
theorem MessageFits.stateArrival (f : Inbound StatePayload) : MessageFits.Statement (.stateArrival f) :=
  fits_of_none rfl
theorem MessageFits.undefinedKindArrival (h : Header) (kind : BitVec 4) :
    MessageFits.Statement (.undefinedKindArrival h kind) :=
  fits_of_none rfl
theorem MessageFits.receiveError (e : ReceiveFault) : MessageFits.Statement (.receiveError e) := fits_of_none rfl
theorem MessageFits.transmitAttemptStart : MessageFits.Statement (.transmitAttemptStart) := fits_of_none rfl
theorem MessageFits.arbitrationLoss : MessageFits.Statement (.arbitrationLoss) := fits_of_none rfl
theorem MessageFits.transmitError : MessageFits.Statement (.transmitError) := fits_of_none rfl
theorem MessageFits.waitLimit : MessageFits.Statement (.waitLimit) := fits_of_none rfl
theorem MessageFits.isolationRetryExpiry : MessageFits.Statement (.isolationRetryExpiry) := fits_of_none rfl
theorem MessageFits.stopLoopOpens : MessageFits.Statement (.stopLoopOpens) := fits_of_none rfl
theorem MessageFits.stopLoopCloses : MessageFits.Statement (.stopLoopCloses) := fits_of_none rfl
theorem MessageFits.truckPresentActive : MessageFits.Statement (.truckPresentActive) := fits_of_none rfl
theorem MessageFits.truckPresentInactive : MessageFits.Statement (.truckPresentInactive) := fits_of_none rfl
theorem MessageFits.breakerParkActive : MessageFits.Statement (.breakerParkActive) := fits_of_none rfl
theorem MessageFits.breakerParkInactive : MessageFits.Statement (.breakerParkInactive) := fits_of_none rfl
theorem MessageFits.closedLimitActive (g : Gate) : MessageFits.Statement (.closedLimitActive g) := fits_of_none rfl
theorem MessageFits.closedLimitInactive (g : Gate) : MessageFits.Statement (.closedLimitInactive g) :=
  fits_of_none rfl
theorem MessageFits.openLimitActive (g : Gate) : MessageFits.Statement (.openLimitActive g) := fits_of_none rfl
theorem MessageFits.openLimitInactive (g : Gate) : MessageFits.Statement (.openLimitInactive g) := fits_of_none rfl
theorem MessageFits.receiverReadyInactive (g : Gate) : MessageFits.Statement (.receiverReadyInactive g) :=
  fits_of_none rfl
theorem MessageFits.receiverReadyActive (g : Gate) : MessageFits.Statement (.receiverReadyActive g) :=
  fits_of_none rfl
theorem MessageFits.spareInputEdge (input : InputNo) (active : Bool) :
    MessageFits.Statement (.spareInputEdge input active) :=
  fits_of_none rfl
theorem MessageFits.inputFirstConditioned (input : InputNo) (active : Bool) :
    MessageFits.Statement (.inputFirstConditioned input active) :=
  fits_of_none rfl
theorem MessageFits.inputFirstStateForced (input : InputNo) (raw : Bool) :
    MessageFits.Statement (.inputFirstStateForced input raw) :=
  fits_of_none rfl
theorem MessageFits.weigherPulse (g : Gate) : MessageFits.Statement (.weigherPulse g) := fits_of_none rfl
theorem MessageFits.rangingRecord (r : RangingRecord) : MessageFits.Statement (.rangingRecord r) := fits_of_none rfl
theorem MessageFits.offerTimerExpiry : MessageFits.Statement (.offerTimerExpiry) := fits_of_none rfl
theorem MessageFits.settleTimerExpiry : MessageFits.Statement (.settleTimerExpiry) := fits_of_none rfl
theorem MessageFits.breakerRenewalExpiry : MessageFits.Statement (.breakerRenewalExpiry) := fits_of_none rfl
theorem MessageFits.returnTimerExpiry : MessageFits.Statement (.returnTimerExpiry) := fits_of_none rfl
theorem MessageFits.warningTimerExpiry (g : Gate) : MessageFits.Statement (.warningTimerExpiry g) := fits_of_none rfl
theorem MessageFits.strokeTimerExpiry (g : Gate) : MessageFits.Statement (.strokeTimerExpiry g) := fits_of_none rfl
theorem MessageFits.drawRenewalExpiry (g : Gate) : MessageFits.Statement (.drawRenewalExpiry g) := fits_of_none rfl
theorem MessageFits.starvationWindowExpiry (g : Gate) : MessageFits.Statement (.starvationWindowExpiry g) :=
  fits_of_none rfl
theorem MessageFits.wetRestExpiry : MessageFits.Statement (.wetRestExpiry) := fits_of_none rfl
theorem MessageFits.silenceTimerExpiry (station : BitVec 4) : MessageFits.Statement (.silenceTimerExpiry station) :=
  fits_of_none rfl
theorem MessageFits.rollCallTimerExpiry : MessageFits.Statement (.rollCallTimerExpiry) := fits_of_none rfl
theorem MessageFits.stateTimerExpiry : MessageFits.Statement (.stateTimerExpiry) := fits_of_none rfl
theorem MessageFits.pacingTimerExpiry : MessageFits.Statement (.pacingTimerExpiry) := fits_of_none rfl
theorem MessageFits.storeWriteEnd (took : Bool) : MessageFits.Statement (.storeWriteEnd took) := fits_of_none rfl
theorem MessageFits.coldRestart (pins : StrapPins) : MessageFits.Statement (.coldRestart pins) := fits_of_none rfl
theorem MessageFits.warmRestart (pins : StrapPins) : MessageFits.Statement (.warmRestart pins) := fits_of_none rfl
theorem MessageFits.leaveStarting : MessageFits.Statement (.leaveStarting) := fits_of_none rfl

end Sys2Proof.Laws
end

