-- ==== Sys2Proof/Laws/Requests.lean ====
section
/-! SUPPORT. The frame of a panel request: what a request that the port takes answers, its tests one by one, and the
views that the tests read. -/

namespace Sys2Proof.Machine

/-- One test of an acceptance rule, and the tests that follow. -/
theorem firstFailing_step {b : Bool} {a : AnswerBody} {rest : List (Bool × AnswerBody)} {P : Prop} [Decidable P]
    {x : Option AnswerBody} (h : b = true ↔ ¬P) (r : firstFailing rest = x) :
    firstFailing ((b, a) :: rest) = if P then some a else x := by
  by_cases hp : P
  · have : b = false := by simpa [hp] using h
    simp [firstFailing, this, hp]
  · have : b = true := h.mpr hp
    simp [firstFailing, this, hp, r]

/-- Past the tests nothing is refused. -/
theorem firstFailing_nil : firstFailing [] = none := rfl

/-- A request that the port takes: the first failing test answers it with no other effect, or its effect is
informed and the acceptance answers it. -/
theorem request_taken (code : Nat) (tests : List (Bool × AnswerBody)) (body : AnswerBody) (effect : State → State)
    (s : State) (h : s.TakesRequests) :
    s.request code tests body effect = answerWith code (firstFailing tests) body ((effect s).inform s) s := by
  unfold State.request
  rw [h.1]
  simp only [h.2, Bool.false_eq_true, if_false]
  unfold State.accept
  cases firstFailing tests <;> rfl

/-- A request in STARTING. -/
theorem request_starting (code : Nat) (tests : List (Bool × AnswerBody)) (body : AnswerBody) (effect : State → State)
    (s : State) (hp : s.port.restartPending = false) (hm : s.mode = .starting) :
    s.request code tests body effect = s.giveAnswer code .busy := by
  unfold State.request
  simp [hp, hm]

/-- The effect counts only where nothing refuses the request. -/
theorem answerWith_congr {code : Nat} {r : Option AnswerBody} {body : AnswerBody} {e e' s : State}
    (h : r = none → e = e') : answerWith code r body e s = answerWith code r body e' s := by
  cases r with
  | none => rw [h rfl]
  | some _ => rfl

theorem anyHold_iff (kind : HoldKind) (s : State) : s.anyHold kind = true ↔ s.Holds kind := by
  simp [State.anyHold, State.Holds]

theorem noHold_iff (kind : HoldKind) (s : State) : (!s.anyHold kind) = true ↔ ¬s.Holds kind := by
  rw [← anyHold_iff]; simp

theorem holdOf_iff (kind : HoldKind) (s : State) : (s.holdOf s.own kind).isSome = true ↔ s.HoldsOwn kind := by
  simp [State.holdOf, List.find?_isSome, Hold.isOf]

theorem noOwnHold_iff (kind : HoldKind) (s : State) : (s.holdOf s.own kind).isNone = true ↔ ¬s.HoldsOwn kind := by
  rw [← holdOf_iff]; simp

theorem live_iff (s : State) : s.mode.live = true ↔ s.Live := by
  cases h : s.mode <;> simp [Mode.live, State.Live, h]

theorem moistureOf_isSome (m : Byte) : (moistureOf m).isSome = true ↔ 1 ≤ m.toNat ∧ m.toNat ≤ 4 := by
  unfold moistureOf
  repeat' split
  all_goals simp; omega

theorem tokenOf_isSome (t : Byte) : (tokenOf t).isSome = true ↔ t.toNat ≤ 1 := by
  unfold tokenOf
  repeat' split
  all_goals simp; omega

theorem tokenOf_eq {t : Byte} (h : t.toNat ≤ 1) : tokenOf t = some (decide (t.toNat = 1)) := by
  unfold tokenOf
  have : t.toNat = 0 ∨ t.toNat = 1 := by omega
  rcases this with h | h <;> simp [h]

theorem gateOf_isSome (g : Byte) : (gateOf g).isSome = true ↔ NamesGate g := by
  unfold gateOf NamesGate
  repeat' split
  all_goals simp_all

theorem gateOf_getD (g : Byte) : (gateOf g).getD .a = gateNamed g := by
  unfold gateOf gateNamed
  by_cases h1 : g.toNat = 1
  · simp [h1]
  · by_cases h2 : g.toNat = 2 <;> simp [h1, h2]

theorem drawing_iff (q : GateSeq) : q.state.drawing = true ↔ q.Drawing := by
  cases h : q.state <;> simp [GateState.drawing, GateSeq.Drawing, h]

theorem provenClosed_iff (g : Gate) (s : State) : s.provenClosed g = true ↔ s.ProvenClosed g := by
  simp [State.provenClosed, State.ProvenClosed]

end Sys2Proof.Machine
end

