-- ==== Sys2Proof/Laws/Starting.lean ====
section
/-! SUPPORT. What STARTING does: the restart states that the inputs give, and the end of the port's buffers. -/

namespace Sys2Proof.Machine

/-! ## An input's first conditioned state -/

theorem startLoop_open (s : State) :
    s.startLoop stopLoopInput (some false) = s.setRestartCauses (s.restartCauses.union Causes.ofStopLoop) := by
  simp [State.startLoop]

theorem startLoop_other {i : InputNo} {active : Option Bool} (h : i ≠ stopLoopInput ∨ active ≠ some false) (s : State) :
    s.startLoop i active = s := by
  unfold State.startLoop; split
  · rename_i hc; exact absurd hc (by rintro ⟨rfl, rfl⟩; simp at h)
  · rfl

theorem startBreaker_park {s : State} (active : Option Bool) (h : s.straps.role = .tip) :
    s.startBreaker parkInput active = s.setBreaker (Breaker.restarted (active == some true)) := by
  simp [State.startBreaker, h]

theorem startBreaker_other {s : State} {i : InputNo} (active : Option Bool)
    (h : s.straps.role = .draw ∨ i ≠ parkInput) : s.startBreaker i active = s := by
  unfold State.startBreaker; split
  · rename_i hc; rcases h with h | h
    · rw [h] at hc; exact absurd hc.1 (by decide)
    · exact absurd hc.2 h
  · rfl

/-! ## The restart states of the other blocks -/

/-- Before the last input, and once the blocks have started, nothing starts. -/
theorem startBlocks_waits {s : State} (h : s.allConditioned = false ∨ s.blocksStarted = true) : s.startBlocks = s := by
  unfold State.startBlocks; split
  · rename_i hc; rcases h with h | h <;> simp [h] at hc
  · rfl

/-- With the last input the sequencers start, the wet status is evaluated, and the port is emptied. -/
theorem startBlocks_last {s : State} (h : s.allConditioned = true) (hb : s.blocksStarted = false) :
    s.startBlocks = (s.startSequencers.evaluateWet.setPort
      s.startSequencers.evaluateWet.port.emptied).setBlocksStarted true := by
  simp [State.startBlocks, h, hb]

/-- The port emptied keeps its events, its answer and its window. -/
@[simp] theorem Port.emptied_pendingEvents (p : Port) : p.emptied.pendingEvents = p.pendingEvents := rfl
@[simp] theorem Port.emptied_enabledEvents (p : Port) : p.emptied.enabledEvents = p.enabledEvents := rfl
@[simp] theorem Port.emptied_answer (p : Port) : p.emptied.answer = p.answer := rfl
@[simp] theorem Port.emptied_window (p : Port) : p.emptied.window = p.window := rfl
@[simp] theorem Port.emptied_restartPending (p : Port) : p.emptied.restartPending = p.restartPending := rfl
@[simp] theorem Port.emptied_malformed (p : Port) : p.emptied.malformed = 0 := rfl
@[simp] theorem Port.emptied_report (p : Port) : p.emptied.report = none := rfl
@[simp] theorem Port.emptied_buffer (p : Port) : p.emptied.buffer = [] := rfl

/-- A first conditioned state is taken in STARTING alone, and once. -/
theorem firstState_refused {s : State} {i : InputNo} (st : InputState)
    (h : s.mode ≠ .starting ∨ s.conditioned i ≠ none) : s.firstState i st = s := by
  unfold State.firstState; split
  · rename_i hc; rcases h with h | h
    · exact absurd hc.1 h
    · exact absurd hc.2 h
  · rfl

theorem firstState_taken {s : State} {i : InputNo} (st : InputState) (hm : s.mode = .starting)
    (h : s.conditioned i = none) : s.firstState i st = (s.takeFirst i st).startBlocks := by
  simp [State.firstState, hm, h]

end Sys2Proof.Machine
end

