-- ==== Sys2Proof/Laws/Tip.lean ====
section
/-! SUPPORT. What the column and the line leave of the tip sequencer, the breaker and the hold list. -/

namespace Sys2Proof.Machine

/-! ## The column model touches no sequencer -/

@[simp] theorem setColumn_tip (c : Column) (s : State) : (s.setColumn c).tip = s.tip := by
  unfold State.setColumn; split
  · rfl
  · unfold State.evaluateWet; split <;> rfl
@[simp] theorem setColumn_breaker (c : Column) (s : State) : (s.setColumn c).breaker = s.breaker := by
  unfold State.setColumn; split
  · rfl
  · unfold State.evaluateWet; split <;> rfl
@[simp] theorem setColumn_line (c : Column) (s : State) : (s.setColumn c).line = s.line := by
  unfold State.setColumn; split
  · rfl
  · unfold State.evaluateWet; split <;> rfl
@[simp] theorem setColumn_holds (c : Column) (s : State) : (s.setColumn c).holds = s.holds := by
  unfold State.setColumn; split
  · rfl
  · unfold State.evaluateWet; split <;> rfl
@[simp] theorem setColumn_gates (c : Column) (s : State) : (s.setColumn c).gates = s.gates := by
  unfold State.setColumn; split
  · rfl
  · unfold State.evaluateWet; split <;> rfl
@[simp] theorem setColumn_column (c : Column) (s : State) : (s.setColumn c).column = c := by
  unfold State.setColumn; split
  · rfl
  · unfold State.evaluateWet; split <;> rfl
@[simp] theorem setColumn_reservations (c : Column) (s : State) :
    (s.setColumn c).reservations = s.reservations := by
  unfold State.setColumn; split
  · rfl
  · unfold State.evaluateWet; split <;> rfl

@[simp] theorem addLayers_tip (l : List Segment) (s : State) : (s.addLayers l).tip = s.tip := by
  unfold State.addLayers; split
  · dsimp only; split <;> simp [State.modelEvent]
  · rfl
@[simp] theorem addLayers_breaker (l : List Segment) (s : State) : (s.addLayers l).breaker = s.breaker := by
  unfold State.addLayers; split
  · dsimp only; split <;> simp [State.modelEvent]
  · rfl
@[simp] theorem addLayers_line (l : List Segment) (s : State) : (s.addLayers l).line = s.line := by
  unfold State.addLayers; split
  · dsimp only; split <;> simp [State.modelEvent]
  · rfl
@[simp] theorem addLayers_holds (l : List Segment) (s : State) : (s.addLayers l).holds = s.holds := by
  unfold State.addLayers; split
  · dsimp only; split <;> simp [State.modelEvent]
  · rfl
@[simp] theorem addLayers_gates (l : List Segment) (s : State) : (s.addLayers l).gates = s.gates := by
  unfold State.addLayers; split
  · dsimp only; split <;> simp [State.modelEvent]
  · rfl
@[simp] theorem addLayers_reservations (l : List Segment) (s : State) :
    (s.addLayers l).reservations = s.reservations := by
  unfold State.addLayers; split
  · dsimp only; split <;> simp [State.modelEvent]
  · rfl

/-! ## A frame handed over -/

/-- A frame that is lost ends no tip but a REQUESTED one. -/
theorem frameLost_tip (f : Frame) (s : State) :
    (s.frameLost f).tip = s.tip ∨
    ∃ load, s.tip.stage = .requested load ∧ (s.frameLost f).tip = (s.tipEnd (.withdrawn .line) load).tip := by
  unfold State.frameLost; split
  · split
    · next load h => exact .inr ⟨load, h, rfl⟩
    all_goals exact .inl rfl
  · exact .inl rfl
  · exact .inl (by simp [State.dropReservation])
  all_goals exact .inl rfl

/-- A frame that is lost touches no breaker. -/
@[simp] theorem frameLost_breaker (f : Frame) (s : State) : (s.frameLost f).breaker = s.breaker := by
  unfold State.frameLost; split
  · split <;> rfl
  · rfl
  · simp [State.dropReservation]
  all_goals rfl

@[simp] theorem frameLost_holds (f : Frame) (s : State) : (s.frameLost f).holds = s.holds := by
  unfold State.frameLost; split
  · split <;> rfl
  · rfl
  · simp [State.dropReservation]
  all_goals rfl

@[simp] theorem frameLost_gates (f : Frame) (s : State) : (s.frameLost f).gates = s.gates := by
  unfold State.frameLost; split
  · split <;> rfl
  · rfl
  · simp [State.dropReservation]
  all_goals rfl

@[simp] theorem frameLost_line (f : Frame) (s : State) : (s.frameLost f).line = s.line := by
  unfold State.frameLost; split
  · split <;> rfl
  · rfl
  · simp [State.dropReservation]
  all_goals rfl

/-- All that handing a frame over can do: nothing, a change of the line, or a change of the line and a lost frame. -/
theorem handOver_cases (f : Frame) (s : State) :
    s.handOver f = s ∨ (∃ l, s.handOver f = s.setLine l) ∨
    ∃ l lost, s.handOver f = (s.setLine l).frameLost lost := by
  have self : s = s.setLine s.line := rfl
  unfold State.handOver State.enqueue
  split
  · exact .inl rfl
  · split
    · exact .inr (.inl ⟨_, rfl⟩)
    · exact .inr (.inr ⟨_, _, rfl⟩)
  · split
    · split
      · exact .inr (.inl ⟨_, rfl⟩)
      · exact .inr (.inr ⟨_, _, rfl⟩)
    · exact .inr (.inr ⟨s.line, f, by rw [← self]⟩)

@[simp] theorem handOver_breaker (f : Frame) (s : State) : (s.handOver f).breaker = s.breaker := by
  rcases handOver_cases f s with h | ⟨l, h⟩ | ⟨l, x, h⟩ <;> simp [h]
@[simp] theorem handOver_holds (f : Frame) (s : State) : (s.handOver f).holds = s.holds := by
  rcases handOver_cases f s with h | ⟨l, h⟩ | ⟨l, x, h⟩ <;> simp [h]
@[simp] theorem handOver_gates (f : Frame) (s : State) : (s.handOver f).gates = s.gates := by
  rcases handOver_cases f s with h | ⟨l, h⟩ | ⟨l, x, h⟩ <;> simp [h]

/-- Handing a frame over leaves the tip, or ends a REQUESTED one whose OFFER is lost. -/
theorem handOver_tip (f : Frame) (s : State) :
    (s.handOver f).tip = s.tip ∨
    ∃ load, s.tip.stage = .requested load ∧ (s.handOver f).tip = (s.tipEnd (.withdrawn .line) load).tip := by
  rcases handOver_cases f s with h | ⟨l, h⟩ | ⟨l, x, h⟩
  · exact .inl (by rw [h])
  · exact .inl (by rw [h]; rfl)
  · rw [h]
    rcases frameLost_tip x (s.setLine l) with e | ⟨load, e, e'⟩
    · exact .inl e
    · exact .inr ⟨load, e, e'⟩

theorem handOver_isOffered (f : Frame) (s : State) (h : s.tip.stage.isOffered = false) :
    (s.handOver f).tip.stage.isOffered = false := by
  rcases handOver_tip f s with e | ⟨load, _, e⟩
  · rw [e]; exact h
  · rw [e]; rfl

/-- A tip that is neither REQUESTED nor OFFERED stands through a frame handed over. -/
theorem handOver_tip_of_not_requested (f : Frame) (s : State) (h : ∀ load, s.tip.stage ≠ .requested load) :
    (s.handOver f).tip = s.tip := by
  rcases handOver_tip f s with e | ⟨load, e, _⟩
  · exact e
  · exact absurd e (h load)

/-- A withdrawal leaves no tip OFFERED. -/
theorem withdrawTip_isOffered (c : WithdrawCause) (s : State) : (s.withdrawTip c).tip.stage.isOffered = false := by
  unfold State.withdrawTip
  split
  · dsimp only; split
    · rfl
    · unfold State.revokeOffer; split
      · rfl
      · exact handOver_isOffered _ _ rfl
  · dsimp only; split
    · rfl
    · exact handOver_isOffered _ _ rfl
  all_goals simp_all [TipStage.isOffered]

@[simp] theorem withdrawTip_breaker (c : WithdrawCause) (s : State) : (s.withdrawTip c).breaker = s.breaker := by
  unfold State.withdrawTip
  split
  · dsimp only; split
    · rfl
    · unfold State.revokeOffer; split <;> simp [State.removeOffer, State.tipEnd]
  · dsimp only; split <;> simp [State.tipEnd, State.dropReservation]
  all_goals rfl

@[simp] theorem withdrawTip_holds (c : WithdrawCause) (s : State) : (s.withdrawTip c).holds = s.holds := by
  unfold State.withdrawTip
  split
  · dsimp only; split
    · rfl
    · unfold State.revokeOffer; split <;> simp [State.removeOffer, State.tipEnd]
  · dsimp only; split <;> simp [State.tipEnd, State.dropReservation]
  all_goals rfl

@[simp] theorem withdrawTip_gates (c : WithdrawCause) (s : State) : (s.withdrawTip c).gates = s.gates := by
  unfold State.withdrawTip
  split
  · dsimp only; split
    · rfl
    · unfold State.revokeOffer; split <;> simp [State.removeOffer, State.tipEnd]
  · dsimp only; split <;> simp [State.tipEnd, State.dropReservation]
  all_goals rfl

end Sys2Proof.Machine
end

