-- ==== Sys2Proof/Tests/Slice0.lean ====
section
/-! SUPPORT. The model's own tests: the checks of WellFormed, words written out from the layouts of 12, the worked
cases of the spec, and a witness for the hypotheses of every statement. -/

-- One kernel evaluation at a time, so that their stacks do not add up.
set_option Elab.async false

namespace Sys2Proof.Tests

open Sys2Proof Sys2Proof.Machine

/-! ## The reference profile of 01 and stations made from it -/

def bands : List Band := [⟨2000, 1250⟩, ⟨11000, 1130⟩, ⟨11000, 1540⟩, ⟨4000, 1800⟩]

def inputs : List InputProfile := List.replicate 12 ⟨false, 20⟩

def profile : Profile :=
  { issue := 7, bands := bands, density := 1850
    stations := [⟨1, .tip, 4000, false, 0, 1, inputs⟩, ⟨2, .tip, 15000, true, 15200, 12000, inputs⟩,
      ⟨3, .draw, 0, false, 0, 1, inputs⟩]
    classVolumes := [60000, 120000, 180000, 300000, 400000, 500000]
    offerTimeout := 120, settleTime := 8, renewalWindow := 600, warningTime := 3, strokeLimit := 12
    returnLimit := 60, wetRest := 300, starvationWindow := 20, surfaceInterval := 2, statePeriod := 1000
    wetDrawLimit := 20000, reportQuantum := 1000, weigherQuantum := 250, starvationThreshold := 200
    cushion := 1000000, drawZone := 1200000, headroom := 300, tTol := 50, tHang := 300, qMin := 8
    digest := 1 }

/-- A segment of no flags. -/
def plain (volume : Nat) (m : Moisture) : Segment := ⟨volume, m, none, false, false, false⟩

/-- A peer that has sent a STATE of no importance. -/
def heardPeer (n : Nat) (r : Role) : PeerRecord :=
  { PeerRecord.restarted n (some r) (some ⟨30, 240000⟩) with
    presence := .present, lastSeq := some 57, silence := ⟨true, 3000⟩, lastArrival := some 0 }

/-- Station `n` of the reference profile in READY, its line ACTIVE, its column 9,000,000 dL DRY, its inputs closed,
parked and proven closed. -/
def station (n : Nat) (r : Role) : State :=
  { State.reset with
    mode := .ready, blocksStarted := true, straps := ⟨n, r, 20⟩, profile := some profile, profileResult := .valid
    column := { Column.cold with seeded := true, segments := [plain 9000000 .dry] }
    breaker := Breaker.restarted true, gates := ⟨GateSeq.restarted true false, GateSeq.restarted true false⟩
    line := { Line.restarted with state := .active }
    peers := ⟨([(1, .tip), (2, .tip), (3, .draw)].filter (fun x => x.1 != n)).map (fun x => heardPeer x.1 x.2),
      ⟨false, 0⟩, ⟨true, 500⟩⟩
    field := { State.reset.field with
      inputs := ((Vector.replicate 12 ⟨true, some true, false⟩).set 2
        ⟨false, some (decide (r = .tip)), false⟩).set 5 ⟨false, some false, false⟩ } }

def tipper : State := station 1 .tip
def ranger : State := station 2 .tip
def drawer : State := station 3 .draw

/-- The state a command leaves. -/
def after (c : Instr) (s : State) : State :=
  match exec c s with
  | .next t => t
  | .fault _ | .refused _ => s

/-- The state that commands leave. -/
def afterAll (l : List Instr) (s : State) : State := l.foldl (fun s c => after c s) s

/-- The answer a command gets. -/
def answered (c : Instr) (s : State) : Option AnswerBody := (after c s).port.answer.map Answer.body

def load : Load := ⟨3, 180000, .dry, false, false, false⟩
def inStage (x : TipStage) (s : State) : State :=
  { s with tip := ⟨x, ⟨true, 1⟩, ⟨true, 1⟩, 0, none⟩ }
def inBreaker (x : BreakerState) (s : State) : State := { s with breaker := ⟨x, ⟨true, 1⟩, ⟨true, 1⟩, none⟩ }
def inGate (x : GateState) (s : State) : State :=
  { s with
    gates := ⟨{ state := x, mode := some (.batch 250), wetCap := none, mass := 0, token := none
                renewal := ⟨true, 1⟩, warning := ⟨true, 1⟩, stroke := ⟨true, 1⟩, dribble := ⟨false, false⟩
                record := some ⟨.batch 250, 0, none, false, none⟩ }, s.gates.b⟩
    watch := { s.watch with windows := ⟨⟨⟨true, 1⟩, 199⟩, ⟨⟨true, 1⟩, 200⟩⟩ } }
/-- One input with this conditioned state. -/
def withInput (i : InputNo) (active : Bool) (s : State) : State :=
  { s with field := { s.field with inputs := s.field.inputs.set i ⟨active, some active, false⟩ } }
def withQueue (l : List QueuedFrame) (s : State) : State := { s with line := { s.line with queue := l } }
def withHolds (l : List Hold) (s : State) : State := { s with holds := l }
def inMode (m : Mode) (s : State) : State := { s with mode := m }
def isolated (s : State) : State := { s with line := { s.line with state := .isolated, retryTimer := ⟨true, 1⟩ } }
def waiting (f : Frame) : QueuedFrame := ⟨f, 0, false, false⟩
def onWire (f : Frame) : QueuedFrame := ⟨f, 0, true, true⟩
def offerFrame : Frame := .offer 3 180000 .dry
def header (n seq : Nat) : Header := ⟨3, BitVec.ofNat 4 n, BitVec.ofNat 8 seq⟩

/-- A STATE of a station with this counter in generation 30 and this SEEDED column. -/
def stateOf (counter volume wet : Nat) : StatePayload :=
  { mode := 2, line := 1, haltCauses := 0, entryHeld := false, hangupSource := 0, hangupGateB := false
    modelSeeded := true, digestPresent := true, gapVolume := 0, gapSurface := 0, openClass := 0, openVolume := 0
    unitHigh := 1, unitLow := 1, columnVolume := BitVec.ofNat 32 volume, wetVolume := BitVec.ofNat 32 wet
    surface := 0, generation := 30, counter := BitVec.ofNat 32 counter, digest := 1 }

/-! ## WellFormed refuses what cannot come about -/

theorem test_wf_no_slice : (Instr.profileLoad 0 []).wellFormed = false := by decide
theorem test_wf_long_slice : (Instr.profileLoad 0 (List.replicate 33 0)).wellFormed = false := by decide
theorem test_wf_longest_slice : (Instr.profileLoad 0 (List.replicate 32 0)).wellFormed = true := by decide
theorem test_wf_known_code : (Instr.unknownRequest (.code 24)).wellFormed = false := by decide
theorem test_wf_unknown_code : (Instr.unknownRequest (.code 25)).wellFormed = true := by decide
theorem test_wf_known_report : (Instr.unknownRequest (.reportKind 4)).wellFormed = false := by decide
theorem test_wf_no_report : (Instr.report 5).wellFormed = false := by decide
theorem test_wf_defined_kind : (Instr.undefinedKindArrival ⟨0, 2, 0⟩ 8).wellFormed = false := by decide
theorem test_wf_undefined_kind : (Instr.undefinedKindArrival ⟨0, 2, 0⟩ 9).wellFormed = true := by decide
theorem test_wf_never_spare : (Instr.spareInputEdge 2 true).wellFormed = false := by decide
theorem test_wf_peer_nine : (Instr.silenceTimerExpiry 9).wellFormed = false := by decide

/-! ## Words written out from the layouts of 12 -/

/-- The check value of R186 and of R189, over the nine characters "123456789". -/
theorem test_crc_check_values :
    crc16 [0x31, 0x32, 0x33, 0x34, 0x35, 0x36, 0x37, 0x38, 0x39] = 0x29B1 ∧
    crc32 [0x31, 0x32, 0x33, 0x34, 0x35, 0x36, 0x37, 0x38, 0x39] = 0xCBF43926 := by decide +kernel

/-- The OFFER of the example of 12.1: 0x48 0xC6 0x11, then 0x03 0x00 0x02 0xBF 0x20 0x02 and its CRC. -/
theorem test_offer_frame :
    let bytes : List Byte := [0x48, 0xC6, 0x11, 0x03, 0x00, 0x02, 0xBF, 0x20, 0x02]
    decodeFrame (bytes ++ bytes2 (crc16 bytes)) = .offerArrival (.received ⟨1, 2, 0x11⟩ ⟨3, 180000, 2⟩) := by
  decide +kernel

/-- The header of the STATE of the example of 12.1. -/
theorem test_state_header : decodeHeader 0xCE 0x20 0 = ⟨⟨3, 3, 0⟩, 8, 32⟩ := by decide

/-- A frame with a bit turned over fails its CRC, one cut short is truncated, and a length that its kind does not
allow is a length error (R141). -/
theorem test_frame_checks :
    let bytes : List Byte := [0x48, 0xC6, 0x11, 0x03, 0x00, 0x02, 0xBF, 0x20, 0x02]
    decodeFrame (bytes ++ bytes2 (crc16 bytes ^^^ 1)) = .receiveError .crc ∧
    decodeFrame bytes = .receiveError .truncation ∧
    decodeFrame [0x48, 0xC5, 0x11, 0, 0, 0, 0, 0, 0, 0] = .receiveError .length := by decide +kernel

/-- HOLD-SET, HOLD-LIFT, WITHDRAW, DRAWN and SURFACE frames, written out (12.1). -/
theorem test_other_frames :
    (∀ f : List Byte × Instr, f ∈ [
      ([0x08, 0x42, 0x05, 0x01, 0x08], .holdSetArrival (.received ⟨0, 2, 5⟩ (.len2 1 8))),
      ([0x08, 0x81, 0x06, 0x02], .holdLiftArrival (.received ⟨0, 2, 6⟩ 2)),
      ([0x49, 0x01, 0x07, 0x05], .withdrawArrival (.received ⟨1, 2, 7⟩ 5)),
      ([0x4D, 0x86, 0x08, 0x0C, 0x00, 0x00, 0xD8, 0xAE, 0x05],
        .drawnArrival (.received ⟨1, 3, 8⟩ ⟨12, 55470, 5⟩)),
      ([0x89, 0xC3, 0x09, 0x4D, 0xF8, 0x0C], .surfaceArrival (.received ⟨2, 2, 9⟩ ⟨19960, 12⟩))] →
      decodeFrame (f.1 ++ bytes2 (crc16 f.1)) = f.2) := by decide +kernel

/-- A TIP of class 3, DRY; a BATCH DRAW on gate B of 2,000 kg; an EVENT-ACK; a PROFILE-LOAD of two bytes (12.2). -/
theorem test_messages :
    (∀ m : List Byte × Instr, m ∈ [
      ([0x06, 0x01, 0x03, 0x01], .tip 3 1), ([0x08, 0x06, 0x02, 0x02, 0x07, 0xD0], .draw 2 2 (some 2000)),
      ([0x06, 0x14, 0x0F, 0xFF], .eventAck 0x0FFF), ([0x08, 0x16, 0x01, 0xFE, 0xAA, 0x55],
        .profileLoad 510 [0xAA, 0x55]), ([0x05, 0x11, 0x05], .unknownRequest (.reportKind 5)),
      ([0x04, 0x19], .unknownRequest (.code 25)), ([0x05, 0x02, 0x00], .malformedMessage)] →
      decodeMessage (m.1 ++ bytes2 (crc16 m.1)) = m.2) := by decide +kernel

/-- A ranging record of 10,130 cm with quality 9, and one with a wrong check (R188). -/
theorem test_ranging_records :
    decodeRanging [0xA5, 0x27, 0x92, 0x09, 0xC2] = .record 10130 9 ∧
    decodeRanging [0xA5, 0x27, 0x92, 0x09, 0xC3] = .malformed := by decide

/-- A start byte among the later bytes begins a new record, and a byte outside a record is set aside (R188). -/
theorem test_ranging_stream :
    decodeRanging [0xA5, 0xA5, 0x00, 0x09, 0xAE] = .malformed ∧
    rangingRecords [] [0x27, 0xA5, 0x27, 0x92, 0x09, 0xC2, 0xA5, 0x00, 0xA5] =
      [.record 10130 9, .malformed] := by decide

/-! ## Worked cases of 01 -/

/-- The table of surface depths of 1.3. -/
theorem test_surface_depths :
    [0, 1, 2500000, 2500001, 9000000, 31870000, 39069999, 39070000].map (surfaceDepth bands) =
      [28000, 27999, 26000, 25999, 20247, 4000, 0, 0] := by decide
theorem test_volume_back : volumeBelow bands 20247 = 9000890 := by decide
theorem test_brow_on_boundary : bandOf bands 15000 = some 2 := by decide
/-- Room at both levels, 1.4. -/
theorem test_rooms :
    roomBelow bands 15300 9000000 450000 = 5141000 ∧ roomBelow bands 4300 9000000 630000 = 21778000 := by decide
/-- Two draws and their remainders, 1.5. -/
theorem test_two_draws :
    drawnVolume 1850 0 3470 = (18756, 1400) ∧ drawnVolume 1850 1400 2130 = (11514, 500) ∧
    drawnVolume 1850 0 5600 = (30270, 500) := by decide
/-- An unauthorised tip over the collar, 1.6. -/
theorem test_split : splitTip 39070000 39000000 200000 = (70000, 130000) := by decide

/-! ## Worked sequences -/

/-- Station 1 after a COLD restart, 2.8: the seed from station 3's STATE, a lost tip and one that arrives, a draw, and
a reading. -/
def cold : State := { tipper with
  column := Column.cold
  peers := { tipper.peers with records := tipper.peers.records.map (fun r =>
    { r with baseline := if r.station = 3 then some ⟨30, 52000⟩ else r.baseline }) } }
def seeded : State := after (.stateArrival (.received (header 3 58) (stateOf 52000 9000000 400000))) cold
def caughtUp : State :=
  after (.tippedArrival (.received (header 2 58) ⟨3, 180000, 1, 0, 30, 540000⟩)) seeded
def drawnDown : State := after (.drawnArrival (.received (header 3 59) ⟨30, 55470, 0⟩)) caughtUp
def read : State := after (.surfaceArrival (.received (header 2 59) ⟨19960, 12⟩)) drawnDown

theorem test_seed_from_state :
    seeded.column.segments.map (fun g => (g.volume, g.moisture)) = [(400000, .wet), (8600000, .damp)] ∧
    seeded.watch.wet = .restricted ∧ seeded.isPending .wetChange = true := by decide +kernel
theorem test_missing_tip :
    caughtUp.column.segments.map (fun g => (g.volume, g.moisture, g.origin)) =
      [(400000, .wet, none), (8600000, .damp, none), (120000, .unknown, some 2), (180000, .dry, some 2)] ∧
    caughtUp.modelSurface = 19982 := by decide +kernel
theorem test_peer_draw :
    drawnDown.columnVolume = 9281244 ∧ drawnDown.column.remainder = 1400 ∧ drawnDown.modelSurface = 19998 := by
  decide +kernel
theorem test_reading_reanchors :
    read.columnVolume = 9325200 ∧ read.column.driftCount = 0 ∧
    (read.column.segments.map Segment.estimated) = [true, true, true, true] := by decide +kernel

/-- A tip from its request to its arrival (5.2): REQUESTED, OFFERED, TIPPING, SETTLING, counted, joined. -/
def asked : State := after (.tip 3 1) tipper
def offered : State := afterAll [.transmitAttemptStart, .offerArrival .own] asked
def tipping : State := after .truckPresentActive (withInput truckInput false offered)
def counted : State := afterAll [.truckPresentInactive, .settleTimerExpiry] tipping
def joined : State := afterAll [.transmitAttemptStart, .tippedArrival .own] counted

theorem test_tip_accepted : asked.tip.stage = .requested load ∧ asked.line.queue = [waiting offerFrame] := by
  decide +kernel
theorem test_tip_offered :
    offered.tip.stage = .offered load ∧ offered.reservations = [⟨1, 3, 180000, 0⟩] ∧ offered.drive 0 = true := by
  decide +kernel
theorem test_tip_counted :
    tipping.tip.stage = .tipping load ∧ counted.tip.stage = .idle ∧ counted.tip.cumulative = 180000 := by
  decide +kernel
theorem test_tip_joined : joined.columnVolume = 9180000 ∧ joined.reservations = [] := by decide +kernel
theorem test_tip_busy : answered (.tip 3 1) asked = some .busy := by decide +kernel
theorem test_tip_wrong_role : answered (.tip 3 1) drawer = some (.refused .wrongRole) := by decide +kernel
theorem test_tip_no_room :
    answered (.tip 3 1) { tipper with column := { tipper.column with segments := [plain 31300000 .dry] } } =
      some (.refused .noRoom) := by decide +kernel

/-- A stale token and a lapse, 6.6. -/
def working : State := after .breakWork tipper
theorem test_break : working.breaker.state = .working false ∧ answered (.breakRenew 0) working =
    some (.refused .staleToken) ∧ answered (.breakRenew 1) working = some .accepted := by decide +kernel
theorem test_break_lapses :
    (after .breakerRenewalExpiry (withInput parkInput false working)).breaker.state = .returning := by
  decide +kernel

/-- A batch draw, a report quantum and dribble, 7.8, with a weigher quantum of 250 kg. -/
def opening : State := afterAll [.draw 1 2 (some 2000), .warningTimerExpiry .a, .closedLimitInactive .a] drawer
def opened : State := afterAll [.weigherPulse .a, .openLimitActive .a] opening
def batchDone : State := afterAll (List.replicate 7 (.weigherPulse .a)) opened
def closedAgain : State := afterAll [.weigherPulse .a, .openLimitInactive .a, .closedLimitActive .a] batchDone

theorem test_draw_opens :
    opening.gates.a.state = .opening ∧ opening.command 0 = true ∧ opened.gates.a.state = .opened ∧
    opened.gates.a.mass = 250 := by decide +kernel
theorem test_batch_done :
    batchDone.gates.a.state = .closing ∧ batchDone.gates.a.mass = 2000 ∧
    batchDone.gates.a.record.map DrawRecord.endCause = some (some .batchDone) := by decide +kernel
theorem test_draw_closes :
    closedAgain.gates.a.state = .closed ∧ closedAgain.drawn = ⟨2250, 2250, false⟩ ∧
    closedAgain.gates.a.dribble = ⟨true, false⟩ := by decide +kernel
theorem test_dribble :
    (after (.weigherPulse .a) closedAgain).gates.a.dribble = ⟨true, true⟩ ∧
    (after (.weigherPulse .a) closedAgain).column.lastReason = some .dribble := by decide +kernel
theorem test_draw_target_clamped :
    (after (.draw 1 2 (some 99)) drawer).gates.a.mode = some (.batch 100) := by decide +kernel
theorem test_gate_reset :
    answered (.gateReset 1) (inGate (.fault .strokeTimeout) drawer) = some .accepted := by decide +kernel
theorem test_draw_renew_not_held :
    answered (.drawRenew 1 1) (after (.draw 1 2 (some 2000)) drawer) = some (.refused .notActive) := by
  decide +kernel

/-- The stop loop opens while a gate is open, 4.6. -/
theorem test_loop_opens :
    let t := after .stopLoopOpens opened
    t.gates.a.state = .fault .loopOpen ∧ t.ownCauses = ⟨false, false, true, true, false⟩ ∧
    (∀ k : Fin 6, t.drive k = false) := by decide +kernel

/-- The receiver is lost, and a draw is starved (3.3). -/
theorem test_receiver_lost :
    (after (.receiverReadyInactive .a) opened).gates.a.record.map DrawRecord.endCause =
      some (some .receiverLost) := by decide +kernel
theorem test_starved :
    let t := after (.starvationWindowExpiry .a) (inGate .opened (withInput 1 false drawer))
    t.holds = [⟨3, 0, .starved .a⟩] ∧ t.gates.a.state = .closing := by decide +kernel

/-- A hang-up raised and lifted, 3.2, at station 2 with 8,969,730 dL. -/
def level2 : State := { ranger with column := { ranger.column with segments := [plain 8969730 .dry] } }
def rangeAt (cm : Nat) (s : State) : State :=
  afterAll [.rangingRecord (.record (BitVec.ofNat 16 cm) 12), .transmitAttemptStart, .surfaceArrival .own,
    .pacingTimerExpiry] s
theorem test_hangup_raised :
    let t := rangeAt 4700 level2
    t.holds = [⟨2, 0, .ranging 423270 19900⟩] ∧ t.column.lastReading.map Reading.disposition = some .held := by
  decide +kernel
theorem test_hangup_lifted :
    let t := rangeAt 5090 (withQueue [] (rangeAt 4700 level2))
    t.holds = [] ∧ t.modelSurface = 20290 := by decide +kernel
theorem test_reading_rejected :
    (after (.rangingRecord (.record 12001 8)) ranger).field.rejectedRange = 1 ∧
    (after (.rangingRecord (.record 100 7)) ranger).field.rejectedQuality = 1 := by decide +kernel

/-- A queue under pressure, 8.5: a HOLD-LIFT takes the place of the newest frame of the worst class. -/
def pressed : State := withQueue ([.state none, .surface 5 .manual, .tipped load 1 180000, .holdSet .entry,
  .holdLift .entry, .holdSet .entry, .holdLift .entry, .holdSet .entry].map waiting) tipper
theorem test_pressure :
    (pressed.handOver (.holdLift .entry)).line.queue.map (fun q => q.frame.kind) =
      [.surface, .tipped, .holdSet, .holdLift, .holdSet, .holdLift, .holdSet, .holdLift] ∧
    (pressed.handOver (.holdLift .entry)).line.counters.drops = 1 := by decide +kernel
theorem test_coalesced :
    (pressed.handOver (.surface 9 .manual)).line.queue.map (fun q => q.frame) =
      (pressed.line.queue.map (fun q => q.frame)).set 1 (.surface 9 .manual) := by decide +kernel

/-- A line held dominant, 8.6: sixteen attempts charge a frame away, and the third discard isolates. -/
theorem test_discard :
    (afterAll (List.replicate 16 .waitLimit) (withQueue [waiting (.surface 1 .manual)] tipper)).line.queue = [] := by
  decide +kernel
theorem test_isolated :
    let s : State := { tipper with line := { tipper.line with
      consecutive := 2, queue := [{ waiting (.surface 1 .manual) with attempts := 15 }] } }
    (after .waitLimit s).line.state = .isolated ∧ (after .waitLimit s).line.retryTimer = ⟨true, 10000⟩ := by
  decide +kernel
theorem test_back_on_line :
    let s := afterAll [.isolationRetryExpiry, .transmitAttemptStart, .stateArrival .own]
      (withQueue [waiting (.state none)] (isolated tipper))
    s.line.state = .active ∧ s.line.lastReason = some .active := by decide +kernel

/-- Counting a peer's gaps, 8.7: 57 then 60 is a gap of two, and a sequence of 0 starts again. -/
theorem test_gaps :
    let gaps (seq : Nat) := ((after (.holdLiftArrival (.received (header 2 seq) 2)) tipper).peer 2).map
      PeerRecord.gapCount
    gaps 60 = some 2 ∧ gaps 58 = some 0 ∧ gaps 0 = some 0 ∧ gaps 56 = some 254 := by decide +kernel
theorem test_own_number :
    (after (.holdLiftArrival (.received (header 1 60) 2)) tipper).ownCauses.duplicate = true := by decide +kernel
theorem test_stranger :
    (after (.holdLiftArrival (.received (header 7 60) 2)) tipper).line.counters.strangers = 1 := by decide +kernel
theorem test_peer_silent :
    ((after (.silenceTimerExpiry 2) tipper).peer 2).map PeerRecord.presence = some .silent := by decide +kernel
theorem test_roll_call_ends :
    (after .rollCallTimerExpiry { inMode .listening tipper with
      peers := { tipper.peers with rollCall := ⟨true, 1⟩ } }).mode = .ready := by decide +kernel

/-! ## The panel port and restarts -/

theorem test_entry_and_release :
    (after .entry tipper).holds = [⟨1, 0, .entry⟩] ∧ (afterAll [.entry, .entryRelease] tipper).holds = [] := by
  decide +kernel
theorem test_halt_release :
    answered .haltRelease (withHolds [⟨1, 0, .halt ⟨true, true, true, false, true⟩⟩] tipper) =
      some (.acceptedCauses ⟨false, false, false, false, true⟩) := by decide +kernel
theorem test_cause_present :
    answered .haltRelease (withInput stopLoopInput false
      (withHolds [⟨1, 0, .halt ⟨false, false, true, false, false⟩⟩] tipper)) =
      some (.refusedCauses ⟨false, false, true, false, false⟩) := by decide +kernel
theorem test_hangup_clear : answered .hangupClear tipper = some (.refused .notHeld) := by decide +kernel
theorem test_seed_request :
    (afterAll [.seed 20247, .transmitAttemptStart, .surfaceArrival .own] cold).columnVolume = 9000890 := by
  decide +kernel
theorem test_status_of_starting : (answered (.status none) State.reset).isSome = true := by decide +kernel
theorem test_busy_in_starting : answered .events State.reset = some .busy := by decide +kernel
theorem test_event_ack : (after (.eventAck 1) tipper).port.pendingEvents = 0 := by decide +kernel
/-- An input whose raw level stands steady takes its first state at its debounce time, 20 ms without a profile
(R162). -/
theorem test_steady_input :
    ({ State.reset with time := 19 } : State).dueCommand = none ∧
    ({ State.reset with time := 20 } : State).dueCommand = some (.inputFirstConditioned 0 false) := by decide +kernel
/-- A boom that leaves park in STARTING after its first conditioned state faults with PARK-LOST (R94, R101, R162). -/
theorem test_park_lost_in_starting :
    (afterAll [.inputFirstConditioned 2 true, .breakerParkInactive] State.reset).breaker.state = .fault .parkLost ∧
    (after (.inputFirstConditioned 2 false) State.reset).breaker.state = .fault .notParked := by decide +kernel
/-- A STARVED entry with a gap field set is not listed (R68). -/
theorem test_hangup_listed :
    (after (.stateArrival (.received (header 3 58)
      { stateOf 0 9000000 0 with hangupSource := 2, hangupGateB := true })) tipper).holds = [⟨3, 0, .starved .b⟩] ∧
    (after (.stateArrival (.received (header 3 58)
      { stateOf 0 9000000 0 with hangupSource := 2, gapSurface := 1 })) tipper).holds = [] := by decide +kernel
/-- A last STATE with HANGUP source 3 and undefined causes goes out with neither, its unknown mode as received (R185,
R186). -/
theorem test_peer_state_shown :
    (stateBytes (shownState { stateOf 0 0 0 with
      mode := 7, haltCauses := 0xE1, hangupSource := 3, hangupGateB := true, gapVolume := 5, gapSurface := 6 })).take 9 =
      [0x71, 0x01, 0x30, 0, 0, 0, 0, 0, 0] ∧
    shownState { stateOf 0 0 0 with hangupSource := 1, gapVolume := 5, gapSurface := 6 } =
      { stateOf 0 0 0 with hangupSource := 1, gapVolume := 5, gapSurface := 6 } := by decide
/-- A STATUS that names an item past the last of block 10 gets no items (notes/assumptions/34.md). -/
theorem test_status_past_end : answered (.status (some (10, 18))) tipper = some (.status []) := by decide +kernel
theorem test_report_next : answered .reportNext tipper = some (.refused .notActive) := by decide +kernel
theorem test_load_past_end :
    answered (.profileLoad 511 [1, 2]) tipper = some (.refused .badRequest) := by decide +kernel
theorem test_commit_empty :
    answered .profileCommit tipper = some (.refusedProfile .storeCheck) := by decide +kernel
theorem test_cold_generation :
    (after (.coldRestart ⟨true, false, false, false, false, true⟩) tipper).store.generation = 1 ∧
    (after (.coldRestart ⟨true, false, false, false, false, true⟩) tipper).straps = ⟨2, .tip, 50⟩ := by
  decide +kernel
theorem test_leaves_for_safe :
    (after .leaveStarting { State.reset with blocksStarted := true }).mode = .safe := by decide +kernel
theorem test_no_table_words : (State.reset.withFetchWord 0 0).pending = [] := by decide

/-! ## Witnesses: states and operands that meet the hypotheses of each statement, clause by clause -/

/-- The command answers a next state. -/
def goesOn (o : Host.Outcome State Fault Refusal) : Bool :=
  match o with
  | .next _ => true
  | .fault _ | .refused _ => false

/-- A TIP station in the middle of its work: a HANGUP of a peer, two reservations, frames in the queue, an answer, and
a command that waits. -/
def busyTipper : State :=
  { (withHolds [⟨2, 0, .ranging 5 5⟩, ⟨3, 0, .entry⟩] (withQueue [onWire (.state none), waiting (.surface 5 .manual)]
      (inBreaker (.working false) tipper))) with
    pending := [.stopLoopOpens]
    restartCauses := { Causes.none with restart := true }
    reservations := [⟨2, 1, 1000, 0⟩, ⟨1, 6, 600000, 0⟩]
    port := { tipper.port with buffer := [(0, 1#8), (511, 2#8)], answer := some ⟨16, .busy⟩ } }
/-- A DRAW station with a gate open and a command that waits. -/
def busyDrawer : State :=
  { inGate .opened drawer with
    pending := [.stopLoopOpens], restartCauses := { Causes.none with restart := true } }

theorem witness_StepRunsFrontCommand :
    busyTipper.pending = .stopLoopOpens :: [] ∧
    (State.reset.pending = [] ∧ State.reset.dueCommand = none) ∧
    (tipper.pending = [] ∧ (inStage (.offered load) tipper).dueCommand = none) ∧
    ({ tipper with peers := { tipper.peers with stateTimer := ⟨true, 0⟩ } } : State).dueCommand =
      some .stateTimerExpiry := by decide +kernel
theorem witness_StepKeepsColumn : busyTipper.ColumnKept ∧ goesOn (step busyTipper) = true := by decide +kernel
theorem witness_StepKeepsBuffers : busyTipper.BuffersKept ∧ goesOn (step busyTipper) = true := by decide +kernel
theorem witness_StepKeepsReservations :
    busyTipper.ReservationsKept ∧ goesOn (step busyTipper) = true := by decide +kernel
theorem witness_StepKeepsTransmitQueue :
    (busyTipper.QueueKept ∧ goesOn (step busyTipper) = true) ∧
    (busyDrawer.QueueKept ∧ goesOn (step busyDrawer) = true) := by decide +kernel
theorem witness_StepKeepsHoldList :
    (busyTipper.AtRest ∧ busyTipper.HoldsKept ∧ goesOn (step busyTipper) = true) ∧
    (State.reset.AtRest ∧ goesOn (step State.reset) = true) := by decide +kernel
theorem witness_StepKeepsTipSafe :
    busyTipper.AtRest ∧ busyTipper.TipSafe ∧ goesOn (step busyTipper) = true := by decide +kernel
theorem witness_StepKeepsDrawSafe :
    busyDrawer.AtRest ∧ busyDrawer.DrawSafe ∧ goesOn (step busyDrawer) = true := by decide +kernel
theorem witness_EveryAnswerFitsItsLengthByte :
    busyTipper.AnswerFits ∧ goesOn (exec (.report 1) busyTipper) = true := by decide +kernel

/-- The first request code and the last. -/
theorem witness_StartingAnswersBusy :
    (messageFields (.tip 3 1) = some (1, [3, 1]) ∧ (Instr.tip 3 1).wellFormed = true ∧
      ∀ k, Instr.tip 3 1 ≠ .unknownRequest (.reportKind k)) ∧
    (messageFields .restart = some (24, []) ∧ Instr.restart.wellFormed = true ∧
      ∀ k, Instr.restart ≠ .unknownRequest (.reportKind k)) ∧
    State.reset.mode = .starting ∧ State.reset.port.restartPending = false :=
  ⟨⟨rfl, rfl, fun _ h => nomatch h⟩, ⟨rfl, rfl, fun _ h => nomatch h⟩, rfl, rfl⟩

/-- The one hypothesis of TipAnswered, BreakerRequestsAnswered, DrawAnswered, DrawRequestsAnswered, HoldRequestsAnswered
and EventsAndMessagesAnswered. -/
theorem witness_requests_taken :
    tipper.TakesRequests ∧ drawer.TakesRequests ∧ (inMode .safe tipper).TakesRequests := by decide +kernel

def askedWith (l : List QueuedFrame) : State := withQueue l (inStage (.requested load) tipper)

theorem witness_TipWithdrawnOrCounted :
    (isolated (askedWith [])).line.state = .isolated ∧ (isolated (askedWith [])).tip.stage = .requested load ∧
    (askedWith [waiting offerFrame]).line.state ≠ .isolated ∧
    (∃ q ∈ (askedWith [waiting offerFrame]).line.queue, q.frame.kind = .offer ∧ q.started = false) ∧
    (askedWith [onWire offerFrame]).tip.stage = .requested load ∧
    (∀ q ∈ (askedWith [onWire offerFrame]).line.queue, q.frame.kind = .offer → q.started = true) ∧
    (inStage (.offered load) tipper).tip.stage = .offered load ∧ (inStage (.offered load) tipper).line.state ≠
      .isolated ∧
    (inStage (.tipping load) tipper).tip.stage.isOpen = false ∧ tipper.TakesRequests ∧
    (tipper.straps.role = .tip ∧ (inStage (.offered load) tipper).tip.offerTimer.running = true ∧
      (inStage (.settling load) tipper).tip.settleTimer.running = true) := by decide +kernel

/-- A station with the truck off the grizzly, and one with it there. -/
def awaiting (s : State) : State := withInput truckInput false s
theorem witness_TruckEdges :
    (tipper.straps.role = .tip ∧ (awaiting tipper).Live ∧ (awaiting tipper).EdgeTo truckInput true) ∧
    ((awaiting (inMode .listening tipper)).Live) ∧
    ((awaiting (inStage (.offered load) tipper)).tip.stage = .offered load) ∧
    ((awaiting (askedWith [waiting offerFrame])).EdgeTo truckInput true ∧
      ∃ q ∈ (awaiting (askedWith [waiting offerFrame])).line.queue, q.frame.kind = .offer ∧ q.started = false) ∧
    (∀ q ∈ (awaiting (askedWith [onWire offerFrame])).line.queue, q.frame.kind = .offer → q.started = true) ∧
    (awaiting tipper).tip.stage = .idle ∧ (awaiting (inStage (.tipping load) tipper)).tip.stage = .tipping load ∧
    (awaiting (inStage (.settling load) tipper)).tip.stage = .settling load ∧
    (tipper.Live ∧ tipper.EdgeTo truckInput false) := by decide +kernel
theorem witness_BreakerInputAndTimers :
    (let s := withInput parkInput false (inBreaker .returning tipper)
     s.straps.role = .tip ∧ s.EdgeTo parkInput true ∧ s.breaker.state = .returning ∧
     s.breaker.returning.running = true) ∧
    (let s := withInput parkInput false (inBreaker (.fault .notParked) State.reset)
     s.straps.role = .tip ∧ s.EdgeTo parkInput true ∧ s.breaker.state = .fault .notParked) ∧
    (let s := withInput parkInput false (inBreaker (.working true) tipper)
     s.EdgeTo parkInput true ∧ s.breaker.state = .working true ∧ s.breaker.renewal.running = true) ∧
    (withInput parkInput false tipper).breaker.state = .parked ∧
    (tipper.EdgeTo parkInput false ∧ tipper.breaker.state = .parked) ∧
    ((inBreaker .returning tipper).EdgeTo parkInput false ∧ (inBreaker .returning tipper).breaker.state ≠ .parked) := by
  decide +kernel
theorem witness_DrawEndsAndGateFaults :
    ((inGate .warning drawer).gate .a).Drawing ∧ ((inGate .opening drawer).gate .a).Drawing ∧
    ((inGate .opened drawer).gate .a).Drawing ∧ ¬((inGate .closing drawer).gate .a).Drawing := by decide +kernel
theorem witness_GateInputEdges :
    (let s := withInput 1 false (inGate .closing drawer)
     s.straps.role = .draw ∧ s.EdgeTo (closedLimitInput .a) true ∧ (s.gate .a).state = .closing) ∧
    (let s := withInput 2 true (withInput 1 false (inGate .opened drawer))
     s.EdgeTo (closedLimitInput .a) true ∧ s.active (openLimitInput .a) = true) ∧
    (drawer.EdgeTo (closedLimitInput .b) false ∧ (drawer.gate .b).state = .closed) ∧
    (let s := withInput 1 false (inGate .opening drawer)
     s.EdgeTo (openLimitInput .a) true ∧ s.active (closedLimitInput .a) = false ∧ (s.gate .a).state = .opening) ∧
    ((withInput 2 true drawer).EdgeTo (openLimitInput .a) false) ∧
    (drawer.Live ∧ drawer.EdgeTo (readyInput .a) false) ∧
    ((withInput 6 false drawer).EdgeTo (readyInput .b) true) := by decide +kernel
/-- A starvation count one below the threshold of 200, and one at it. -/
theorem witness_GateTimersExpire :
    drawer.straps.role = .draw ∧
    (((inGate .warning drawer).gate .a).state = .warning ∧ ((inGate .warning drawer).gate .a).warning.running = true) ∧
    (((inGate .closing drawer).gate .a).state = .closing ∧ ((inGate .closing drawer).gate .a).stroke.running = true) ∧
    (((inGate .opened drawer).gate .a).Drawing ∧ ((inGate .opened drawer).gate .a).renewal.running = true) ∧
    (let s := inGate .opened drawer
     (s.gate .a).state = .opened ∧ (s.watch.windows.get .a).timer.running = true ∧
     (s.watch.windows.get .a).count + 1 = s.prof.starvationThreshold ∧
     s.prof.starvationThreshold = (s.watch.windows.get .b).count ∧
     (s.watch.windows.get .b).timer.running = true) := by decide +kernel
/-- The target of 250 kg is met by one pulse of 250 kg. -/
theorem witness_WeigherPulseCounts :
    (let s := inGate .opened drawer
     s.straps.role = .draw ∧ s.Live ∧ s.QueueKept ∧ (s.gate .a).state = .opened ∧
     (s.gate .a).mode = some (.batch 250) ∧ 250 ≤ min ((s.gate .a).mass + s.prof.weigherQuantum) 4294967295 ∧
     (s.gate .a).record = some ⟨.batch 250, 0, none, false, none⟩ ∧
     (after (.weigherPulse .a) s).watch.windows.get .a = ⟨⟨false, 0⟩, 0⟩) ∧
    tipper.straps.role = .tip ∧ ¬(inMode .safe drawer).Live := by decide +kernel
/-- A draw of this mode and wet cap, with nothing drawn. -/
def cappedDraw (mode : DrawMode) (cap : Nat) : State :=
  (inGate .opened drawer).withGate .a (fun q => { q with mode := some mode, wetCap := some cap })
/-- A DRAW station that has drawn this much and told nothing. -/
def untold (n : Nat) : State := { drawer with drawn := ⟨n, 0, false⟩ }
/-- The wet cap met by one pulse, and neither it nor the target met. -/
theorem witness_WeigherPulseCounts_cap :
    ((cappedDraw .held 250).QueueKept ∧ (cappedDraw .held 250).Live ∧
      ((cappedDraw .held 250).gate .a).wetCap = some (((cappedDraw .held 250).gate .a).mass + 250)) ∧
    ((cappedDraw (.batch 251) 250).QueueKept ∧
      ((cappedDraw (.batch 251) 250).gate .a).wetCap = some 250) ∧
    ((cappedDraw (.batch 251) 251).QueueKept ∧
      (let t := after (.weigherPulse .a) (cappedDraw (.batch 251) 251)
       t.watch.wet = .clear ∧ 1000000 < t.columnVolume ∧ (t.gate .a).state = .opened)) :=
  ⟨by decide +kernel, by decide +kernel, by decide +kernel, by decide +kernel⟩
/-- A pulse at a closed gate, and the report quantum of 1,000 kg just met and just not met. -/
theorem witness_WeigherPulseCounts_dribble :
    (drawer.QueueKept ∧ (drawer.gate .a).state = .closed ∧ (drawer.gate .a).dribble.raised = false ∧
      drawer.column.seeded = true ∧ drawer.prof.weigherQuantum = 250) ∧
    ((untold 750).QueueKept ∧ (untold 750).line.state = .active ∧ (untold 750).line.queue = [] ∧
      (untold 750).drawn.reported + drawer.prof.reportQuantum = 750 + 250) ∧
    ((untold 749).QueueKept ∧ ∀ x, ((after (.weigherPulse .a) (untold 749)).gate x).state = .closed) :=
  ⟨by decide +kernel, by decide +kernel, by decide +kernel, fun x => by cases x <;> decide +kernel⟩
def offeredTip : State :=
  { inStage (.offered load) tipper with reservations := [⟨2, 1, 1000, 0⟩, ⟨1, 3, 180000, 0⟩] }
theorem witness_ColumnChangeTold :
    (offeredTip.straps.role = .tip ∧ offeredTip.tip.stage = .offered load ∧
      offeredTip.reservations ≠ tipper.reservations ∧ offeredTip.column.seeded = true) ∧
    (let s : State := { drawer with column := { drawer.column with segments := [plain 1000000 .dry] } }
     s.straps.role = .draw ∧ s.watch.wet = drawer.watch.wet ∧ s.column.segments ≠ drawer.column.segments ∧
     s.columnVolume = s.prof.cushion) ∧
    (let s : State := { inGate .opened drawer with watch := { drawer.watch with wet := .refused } }
     s.straps.role = .draw ∧ s.watch.wet = .refused ∧ drawer.watch.wet ≠ .refused ∧ (s.gate .a).Drawing ∧
     (s.gate .a).record = some ⟨.batch 250, 0, none, false, none⟩) ∧
    (offeredTip.column.segments = tipper.column.segments ∧ tipper.tip.stage ≠ .offered load ∧
      cold.straps.role = .tip ∧ cold.column.seeded = false) ∧
    (let s : State := { drawer with column := { drawer.column with segments := [plain 1000001 .dry] } }
     s.watch.wet = drawer.watch.wet ∧ s.prof.cushion < s.columnVolume) ∧
    (let before (mass : Nat) : State := (inGate .opened drawer).withGate .a (fun q => { q with mass := mass })
     let s (mass volume : Nat) : State := { before mass with
       column := { drawer.column with segments := [plain volume .dry] }
       watch := { drawer.watch with wet := .restricted } }
     ((s 19999 1000001).watch.wet = .restricted ∧ (before 19999).watch.wet ≠ .restricted) ∧
     (((s 19999 1000001).gate .a).wetCap = none ∧ ((s 20000 1000000).gate .a).Drawing) ∧
     (((s 19999 1000001).gate .a).mass < drawer.prof.wetDrawLimit ∧
       ((s 20000 1000000).gate .a).mass = drawer.prof.wetDrawLimit) ∧
     (drawer.prof.cushion < (s 19999 1000001).columnVolume ∧
       (s 20000 1000000).columnVolume = drawer.prof.cushion)) := by decide +kernel
theorem witness_HoldListChanges :
    (∀ h ∈ tipper.holds, ¬(h.holder = 2 ∧ h.body.kind = HoldBody.entry.kind)) ∧
    (let s := withHolds [⟨2, 0, .starved .a⟩] tipper
     s.holds.find? (fun h => h.holder == 2 && h.body.kind == (HoldBody.starved .b).kind) = some ⟨2, 0, .starved .a⟩ ∧
     HoldBody.starved .a ≠ .starved .b ∧
     s.holds.find? (fun h => h.holder == 2 && h.body.kind == (HoldBody.starved .a).kind) = some ⟨2, 0, .starved .a⟩ ∧
     ∃ h ∈ s.holds, h.holder = 2 ∧ h.body.kind = .hangup) := by decide +kernel
theorem witness_StopLoopAtTip :
    (tipper.straps.role = .tip ∧ tipper.mode ≠ .starting ∧ tipper.EdgeTo stopLoopInput false) ∧
    (let s := withInput stopLoopInput true State.reset
     s.mode = .starting ∧ s.EdgeTo stopLoopInput false) ∧
    (withInput stopLoopInput false drawer).EdgeTo stopLoopInput true := by decide +kernel
/-- Gate A's draw is wet-restricted, and 500 kg of it are yet unreported. -/
def wetDraw (s : State) : State :=
  { s with
    gates := s.gates.modify .a (fun q => { q with record := q.record.map (fun r => { r with wetRestricted := true }) })
    drawn := ⟨1500, 1000, true⟩ }
/-- R122's row of OPEN at a gate proven closed: the record, the window, the wet rest and the DRAWN. -/
theorem test_loop_completes_draw :
    let t := after .stopLoopOpens (wetDraw (inGate .opened drawer))
    (t.gate .a).record = some ⟨.batch 250, 0, some .stopLoop, true, some (true, 0)⟩ ∧
    t.watch.windows.a = ⟨⟨false, 0⟩, 0⟩ ∧ t.watch.wetRest = ⟨true, 300000⟩ ∧ t.drawn = ⟨1500, 1500, false⟩ := by
  decide +kernel
/-- R122's row of CLOSING: the record keeps its own end cause, here none. -/
theorem test_loop_keeps_end_cause :
    ((after .stopLoopOpens (withInput 1 false (inGate .closing drawer))).gate .a).record =
      some ⟨.batch 250, 0, none, false, some (false, 0)⟩ := by decide +kernel
theorem witness_StopLoopOpensAtDraw :
    (let s := inGate .warning drawer
     s.straps.role = .draw ∧ s.mode ≠ .starting ∧ s.EdgeTo stopLoopInput false ∧
     (s.gate .a).state.inHand = true ∧ s.ProvenClosed .a ∧ (s.gate .b).state.inHand = false) ∧
    (let s := withInput 1 false (inGate .warning drawer)
     s.EdgeTo stopLoopInput false ∧ (s.gate .a).state = .warning ∧ ¬s.ProvenClosed .a) ∧
    (let s := withInput 1 false (inGate .opened drawer)
     s.EdgeTo stopLoopInput false ∧ (s.gate .a).state.inHand = true ∧ (s.gate .a).state ≠ .warning ∧
     ¬s.ProvenClosed .a) ∧
    (∀ x ∈ [GateState.opening, .opened, .closing], ∀ closed ∈ [false, true],
      let s := withInput 1 closed (inGate x drawer)
      s.straps.role = .draw ∧ s.mode ≠ .starting ∧ s.EdgeTo stopLoopInput false ∧ (s.gate .a).state = x ∧
      (s.gate .a).state.inHand = true ∧ (s.ProvenClosed .a ↔ closed = true)) ∧
    (let s := wetDraw (inGate .opened drawer)
     s.EdgeTo stopLoopInput false ∧ (s.gate .a).wetRestricted = true ∧ s.drawn.reported < s.drawn.cumulative ∧
     (drawer.gate .a).state.inHand = false ∧ (drawer.gate .b).state.inHand = false) := by decide +kernel
/-- The safe state in each role and each way, each role outside it, a loop that opens, and an attention line of each
level. -/
theorem witness_OutputsAndAttention :
    (State.reset.mode = .starting ∧ (inMode .safe drawer).mode = .safe ∧
      (withInput stopLoopInput false tipper).conditioned stopLoopInput = some false) ∧
    (∀ s ∈ [tipper, drawer], s.mode ≠ .starting ∧ s.mode ≠ .safe ∧ s.conditioned stopLoopInput ≠ some false ∧
      s.TipSafe ∧ s.EdgeTo stopLoopInput false ∧ goesOn (exec .stopLoopOpens s) = true) ∧
    tipper.straps.role = .tip ∧ drawer.straps.role = .draw ∧
    tipper.attention = true ∧ (after (.eventEnable 0) tipper).attention = false := by decide +kernel
def pacing (s : State) : State := { s with field := { s.field with pacing := ⟨true, 1⟩ } }
/-- Station 2 has a sensor of 12,000 cm and a least quality of 8: the values at either side of each. -/
theorem witness_ReadingsEnter :
    (¬(inMode .safe ranger).Live ∧ ranger.Live) ∧
    (tipper.ownEntry.map StationEntry.sensor = some false) ∧
    (ranger.ownEntry = some ⟨2, .tip, 15000, true, 15200, 12000, inputs⟩) ∧
    ((7#4).toNat < ranger.prof.qMin ∧ ranger.prof.qMin ≤ (8#4).toNat) ∧
    (12000 < (12001#16).toNat ∧ (12000#16).toNat ≤ 12000) ∧
    ((pacing ranger).field.pacing.running = true ∧ ranger.field.pacing.running = false) ∧
    ({ (pacing ranger).field with pendingReading := some (100, 9) } : Field).pendingReading = some (100, 9) ∧
    (pacing ranger).field.pendingReading = none := by decide +kernel
/-- The surface of the model stands at 20,247 cm, the thresholds at 50 and 300 cm: the depths at either side. -/
theorem witness_SurfaceTaken :
    (cold.column.seeded = false ∧ ranger.column.seeded = true) ∧
    -- Seeds at the lip, beyond it, and one centimetre above it.
    (chuteDepth cold.prof.bands = 28000 ∧ looseLayer (volumeBelow cold.prof.bands 28000) .damp = [] ∧
      looseLayer (volumeBelow cold.prof.bands 27999) .damp ≠ [] ∧ min 65535 28000 = 28000) ∧
    (ranger.modelSurface = 20247 ∧ ranger.prof.tHang = 300 ∧ ranger.prof.tTol = 50) ∧
    (ranger.holdOf 1 .hangup = none ∧ ranger.holdOf ranger.own .hangup = none) ∧
    (let s := withHolds [⟨2, 0, .ranging 5 5⟩, ⟨3, 0, .starved .a⟩] ranger
     s.holdOf 2 .hangup = some ⟨2, 0, .ranging 5 5⟩ ∧ (HoldBody.ranging 5 5).isRanging = true ∧ s.own = 2 ∧
     s.holdOf 3 .hangup = some ⟨3, 0, .starved .a⟩ ∧ s.own ≠ 3) ∧
    ((20247 : Int) - 19948 < 300 ∧ 300 ≤ (20247 : Int) - 19947 ∧ (20247 : Int) - 20198 < 50 ∧
      50 ≤ (20247 : Int) - 20197) := by decide +kernel
theorem witness_OwnArrivals :
    ∀ f ∈ [Frame.holdSet .entry, .holdLift .halt, .drawn 0 0 false false false, .state (some (stateOf 0 0 0)),
        offerFrame, .withdraw .cancel, .tipped load 0 180000, .surface 5 .manual],
      (withQueue [waiting (.holdLift .halt), onWire f] tipper).line.queue.find? (·.onWire) = some (onWire f) := by
  decide +kernel
/-- The least and the greatest class and volume, and one beyond each. -/
theorem witness_OffersJudged :
    (tipper.roleOf 3 ≠ some .tip) ∧
    (tipper.roleOf 2 = some .tip ∧ ¬(1 ≤ 7 ∧ 7 ≤ 6 ∧ 1000 ≤ 1000 ∧ 1000 ≤ 600000)) ∧
    ((1 ≤ 1 ∧ 1 ≤ 6 ∧ 1000 ≤ 1000 ∧ 1000 ≤ 600000) ∧ (1 ≤ 6 ∧ 6 ≤ 6 ∧ 1000 ≤ 600000 ∧ 600000 ≤ 600000)) ∧
    ((inStage (.requested load) offeredTip).tip.stage = .requested load ∧
      ∃ r ∈ (inStage (.requested load) offeredTip).reservations, r.station = 1) ∧
    (∀ r ∈ (askedWith []).reservations, r.station ≠ (askedWith []).own) := by decide +kernel
theorem witness_NumberAndChecksTested :
    receivedHeader (.holdLiftArrival (.received (header 1 5) 1)) = some (header 1 5) ∧
    State.reset.line.state = .offline ∧ tipper.line.state ≠ .offline ∧ tipper.mode ≠ .starting ∧
    ((header 1 5).station.toNat = tipper.own) ∧
    ((header 9 5).station.toNat ≠ tipper.own ∧
      ∀ r ∈ tipper.peers.records, r.station ≠ (header 9 5).station.toNat) ∧
    tipper.HandedOn (header 2 5) := by decide +kernel
theorem witness_PeerHeard :
    tipper.peers.records.find? (fun x => x.station == (header 2 58).station.toNat) = some (heardPeer 2 .tip) := by
  decide +kernel
theorem witness_PeerHoldsTaken :
    tipper.HandedOn (header 2 58) ∧ (inMode .safe tipper).HandedOn (header 2 58) ∧
    tipper.mode ≠ .safe ∧ causesOf 0x08 ≠ Causes.none ∧ NamesGate 1 ∧ NamesGate 2 ∧
    holdBodyOf (.len2 1 0xE0) = none ∧ holdBodyOf (.len3 3 2 3) = none ∧ holdKindOf 3 = some .hangup ∧
    holdKindOf 4 = none := by decide +kernel
theorem witness_PeerOffersTaken :
    tipper.peerRole 3 = some .draw ∧ tipper.HandedOn (header 3 58) ∧ tipper.peerRole 2 ≠ some .draw ∧
    ((inMode .safe tipper).mode = .safe ∧ (inMode .safe tipper).HandedOn (header 2 58)) := by decide +kernel
theorem witness_PeerTippedAndDrawnTaken :
    (tipper.mode ≠ .safe ∧ tipper.HandedOn (header 2 58) ∧ tipper.peerRole 2 = some .tip) ∧
    (tipper.HandedOn (header 3 58) ∧ tipper.peerRole 3 = some .draw) ∧
    (let s := inMode .safe tipper
     s.HandedOn (header 2 58) ∧ s.HandedOn (header 3 58) ∧ s.peerRole 2 ≠ some .draw ∧ s.peerRole 3 ≠ some .tip) := by
  decide +kernel
theorem witness_PeerSurfaceTaken :
    tipper.HandedOn (header 2 58) ∧ tipper.mismatched 2 = false ∧ qualityOf 0 = none ∧ qualityOf 16 = none ∧
    (0x80#8).toNat = 128 ∧ (1 ≤ (1#8).toNat ∧ (1#8).toNat ≤ 15) ∧ (1 ≤ (15#8).toNat ∧ (15#8).toNat ≤ 15) := by
  decide +kernel
theorem witness_PeerStateTaken :
    (inMode .safe tipper).mode = .safe ∧ (inMode .safe tipper).HandedOn (header 2 58) ∧
    (tipper.mode ≠ .safe ∧ tipper.peerRole 2 = some .tip ∧ tipper.peerRole 3 = some .draw) ∧
    (tipper.HandedOn (header 2 58) ∧ tipper.HandedOn (header 3 58)) ∧
    (cold.mode ≠ .safe ∧ cold.column.seeded = false ∧ cold.prof.digest = 1 ∧ cold.peerRole 3 = some .draw) ∧
    hangupListed { stateOf 0 0 0 with hangupSource := 2, hangupGateB := true } = some (.starved .b) ∧
    hangupListed { stateOf 0 0 0 with hangupSource := 2, gapSurface := 1 } = none ∧
    haltListed { stateOf 0 0 0 with haltCauses := 0xE0 } = none ∧
    (inMode .listening tipper).mode = .listening := by decide +kernel
def pressedLine (q : QueuedFrame) : Line :=
  { tipper.line with queue := (List.replicate 7 (waiting (.holdSet .entry))) ++ [q] }
theorem witness_QueueTakesFrame :
    (let l : Line := { tipper.line with queue := [waiting (.holdLift .halt)] ++ waiting (.surface 5 .manual) :: [] }
     l.queue = [waiting (.holdLift .halt)] ++ waiting (.surface 5 .manual) :: [] ∧
     (Frame.surface 9 .manual).kind.coalesces = true ∧ (waiting (.surface 5 .manual)).onWire = false ∧
     ∀ x ∈ [waiting (.holdLift .halt)], x.frame.kind ≠ (Frame.surface 9 .manual).kind) ∧
    (onWire (.surface 5 .manual)).onWire = true ∧
    (Frame.kind (.holdSet .entry)).coalesces = false ∧ tipper.line.queue.length < 8 ∧
    (let q := waiting (.state none)
     8 ≤ (pressedLine q).queue.length ∧ (Frame.holdLift .halt).cls < q.frame.cls ∧
     (∀ x ∈ (pressedLine q).queue, x.onWire = false → x.frame.cls ≤ q.frame.cls) ∧
     (pressedLine q).queue = List.replicate 7 (waiting (.holdSet .entry)) ++ q :: []) ∧
    (∀ x ∈ (pressedLine (waiting (.holdLift .entry))).queue,
      x.onWire = true ∨ x.frame.cls ≤ (Frame.holdSet .entry).cls) := by decide +kernel
theorem witness_FramesLost :
    (askedWith []).tip.stage = .requested load ∧ State.reset.line.state = .offline ∧
    (isolated tipper).line.state = .isolated ∧ offerFrame.kind ≠ .state ∧ offerFrame.kind ≠ .surface ∧
    tipper.line.state ≠ .isolated ∧ tipper.line.state = .active ∧
    (Frame.state none).kind = .state := by decide +kernel
/-- An isolated line whose one attempt is due, with a STATE that stands and frames that wait. -/
def retrying (l : List Frame) : State :=
  let s := isolated (withQueue [waiting (.state none)] tipper)
  { s with line := { s.line with retryDue := true, waiting := l } }
theorem witness_AttemptBeginsAndYields :
    (withQueue [waiting (.state none), waiting offerFrame, waiting (.withdraw .room)] tipper).NextToSend
      [waiting (.state none)] (waiting offerFrame) [waiting (.withdraw .room)] ∧
    (withQueue [onWire offerFrame] tipper).line.sending = true ∧ tipper.line.queue = [] ∧
    State.reset.line.state = .offline ∧ (retrying []).RetryToSend [] (waiting (.state none)) [] ∧
    ((isolated tipper).line.state = .isolated ∧ (isolated tipper).line.retryDue = false) ∧
    ((retrying []).line.retryDue = true ∧
      ∀ q ∈ (withQueue [waiting offerFrame] (retrying [])).line.queue, q.frame.kind ≠ .state) ∧
    busyTipper.HoldsKept ∧ (∀ s ∈ [inMode .safe tipper, inMode .safe drawer, drawer], s.HoldsKept) ∧
    (withHolds [⟨1, 0, .ranging (-2147483648) 65535⟩] tipper).HoldsKept ∧
    (withHolds [⟨1, 0, .starved .b⟩, ⟨1, 0, .halt ⟨false, false, true, false, false⟩⟩] tipper).HoldsKept ∧
    tipper.reservations.find? (fun r => r.station == tipper.own) = none ∧
    offeredTip.reservations.find? (fun r => r.station == offeredTip.own) = some ⟨1, 3, 180000, 0⟩ := by
  decide +kernel
theorem witness_AttemptFails :
    (withQueue [onWire offerFrame] tipper).line.queue.find? (·.onWire) = some (onWire offerFrame) ∧
    (withQueue [waiting offerFrame] tipper).NextToSend [] (waiting offerFrame) [] ∧
    (withQueue [onWire offerFrame] tipper).line.sending = true ∧
    ((isolated tipper).line.state = .isolated ∧ (isolated tipper).line.retryTimer.running = true) ∧
    (retrying []).RetryToSend [] (waiting (.state none)) [] ∧ tipper.line.waiting = [] ∧
    (let f : Frame := .surface 5 .manual
     let l (queue : List QueuedFrame) : Line := { (withQueue queue tipper).line with waiting := [f] }
     (l []).state = .active ∧ f.kind.coalesces = true ∧ (waiting (.surface 4 .manual)).frame.kind = f.kind ∧
     (l [waiting (.holdLift .halt), waiting (.surface 4 .manual)]).queue =
       [waiting (.holdLift .halt)] ++ waiting (.surface 4 .manual) :: [] ∧
     (∀ x ∈ [waiting (.holdLift .halt)], x.frame.kind ≠ f.kind) ∧
     (∀ x ∈ (l (List.replicate 7 (waiting (.holdLift .halt)))).queue, x.frame.kind ≠ f.kind) ∧
     (l (List.replicate 7 (waiting (.holdLift .halt)))).queue.length < 8) := by decide +kernel
theorem witness_PeerTimersExpire :
    tipper.peers.records.find? (fun r => r.station == (2#4).toNat) = some (heardPeer 2 .tip) ∧
    (heardPeer 2 .tip).silence.running = true ∧
    (let s : State := { inMode .listening tipper with peers := { tipper.peers with rollCall := ⟨true, 1⟩ } }
     s.mode = .listening ∧ s.peers.rollCall.running = true) ∧
    tipper.peers.stateTimer.running = true := by decide +kernel
theorem witness_InputsConditioned :
    (inputFunction tipper.straps.role 3 = .spare ∧ tipper.EdgeTo 3 false) ∧
    (inputFunction drawer.straps.role 11 = .spare ∧ (withInput 11 false drawer).EdgeTo 11 true) ∧
    (State.reset.mode = .starting ∧ State.reset.conditioned 0 = none ∧ State.reset.conditioned 11 = none) ∧
    (let s := afterAll ((List.finRange 11).map (fun i => .inputFirstConditioned (i.castLE (by decide)) true)) State.reset
     s.mode = .starting ∧ s.blocksStarted = false ∧ s.conditioned 11 = none ∧ ∀ i : InputNo, i ≠ 11 →
       s.conditioned i ≠ none) := by decide +kernel
theorem witness_LeavesStarting :
    (let s : State := { State.reset with blocksStarted := true }
     s.mode = .starting ∧ s.blocksStarted = true ∧ s.line.queue = [] ∧ s.profile = none) ∧
    (let s : State := { State.reset with blocksStarted := true, profile := some profile }
     s.mode = .starting ∧ s.line.queue = [] ∧ s.profile ≠ none) := by decide +kernel
/-- The first and the last block, the reports, a part that is left, and none. -/
theorem witness_StatusAndReportsAnswered :
    tipper.port.restartPending = false ∧ (1 ≤ (1#8).toNat ∧ (10#8).toNat ≤ 10) ∧ tipper.mode ≠ .starting ∧
    (∀ s ∈ [tipper, drawer, State.reset, busyTipper], s.HoldsKept ∧ s.line.queue.length ≤ 8) ∧
    pressed.line.queue.length = 8 ∧
    tipper.port.report = none ∧
    (let b : ReportBuffer := ⟨.holds (List.replicate 5 ⟨1, 0, .entry⟩), 2⟩
     b.next ≤ b.snapshot.parts ∧ b.snapshot.parts < ({ b with next := 3 } : ReportBuffer).next) := by decide +kernel
theorem witness_ProfileRequestsAnswered :
    tipper.TakesRequests ∧ (1 ≤ [1#8].length ∧ (List.replicate 32 1#8).length ≤ 32) ∧
    tipper.port.buffer.wf = true ∧
    ({ tipper with store := { tipper.store with write := .writing } } : State).store.write = .writing := by
  decide +kernel
theorem witness_MessagesRoundTrip :
    (Instr.draw 1 2 (some 2000)).wellFormed = true ∧ (encodeMessage (.draw 1 2 (some 2000))).isSome = true ∧
    (encodeMessage (.profileLoad 480 (List.replicate 32 0xFF))).isSome = true := by decide +kernel
/-- `Frame.InRange` as a computation. -/
def inRange : Frame → Bool
  | .holdSet (.halt c) => decide (c ≠ Causes.none)
  | .holdSet (.ranging gap depth) => decide (-2147483648 ≤ gap ∧ gap < 2147483648 ∧ depth < 65536)
  | .holdSet .entry | .holdSet (.starved _) | .holdLift _ | .withdraw _ => true
  | .offer cls volume _ => decide (cls < 256 ∧ volume < 4294967296)
  | .tipped l generation total =>
    decide (l.cls < 256 ∧ l.volume < 4294967296 ∧ generation < 256 ∧ total < 4294967296)
  | .drawn generation total _ _ _ => decide (generation < 256 ∧ total < 4294967296)
  | .surface depth (.numeric n) => decide (depth < 65536 ∧ 1 ≤ n ∧ n ≤ 15)
  | .surface depth .manual => decide (depth < 65536)
  | .state formed => formed.isSome
theorem witness_FramesRoundTrip :
    (encodeFrame (.stateArrival (.received (header 3 255) (stateOf 4294967295 1 1)))).isSome = true ∧
    (encodeFrame (.holdSetArrival (.received (header 2 0) (.len8 3 1 0xFFFFFFFF 0xFFFF)))).isSome = true ∧
    (∀ f ∈ [Frame.holdSet (.halt ⟨true, false, false, false, false⟩), .holdSet (.ranging (-2147483648) 65535),
        .holdSet .entry, .holdLift .hangup, .offer 255 4294967295 .wet, .withdraw .room,
        .tipped ⟨255, 4294967295, .unknown, true, true, true⟩ 255 4294967295, .drawn 0 0 true false true,
        .surface 65535 .manual, .state (some (stateOf 0 0 0))], inRange f = true) ∧
    (inRange (.surface 0 (.numeric 1)) = true ∧ inRange (.surface 0 (.numeric 15)) = true) := by decide +kernel
theorem witness_frames_in_range (f : Frame) (h : inRange f = true) : f.InRange := by
  cases f with
  | holdSet b => cases b <;> simp_all [inRange, Frame.InRange]
  | surface d q => cases q <;> simp_all [inRange, Frame.InRange]
  | state p => cases p <;> simp_all [inRange, Frame.InRange]
  | _ => simp_all [inRange, Frame.InRange]
theorem witness_VolumeAndSurfaceInverse :
    (∀ b ∈ bands, 1 ≤ b.height ∧ 1 ≤ b.area) ∧ 28000 ≤ chuteDepth bands ∧ 3 < bands.length ∧
    39070000 ≤ passCapacity bands ∧ 0 < 1 := by decide +kernel
theorem witness_DrawnVolumeIgnoresSplit :
    (1 ≤ 1850 ∧ 1849 < 1850 ∧ 0 < 1850 ∧ cold.column.seeded = false ∧ tipper.column.seeded = true ∧ 1 ≠ 0) ∧
    -- The column of 9,000,000 dL drawn to the last dL, and one beyond it.
    ((1665000 * 10000 + tipper.column.remainder) / tipper.prof.density = tipper.columnVolume ∧
      (1665001 * 10000 + tipper.column.remainder) / tipper.prof.density > tipper.columnVolume) ∧
    (let g := plain 5 .dry
     totalVolume ([g] ++ g :: []) ≤ 10 ∧ totalVolume [g] ≤ 5 ∧ 5 < totalVolume [g] + g.volume ∧
     9 < totalVolume [g] + g.volume) := by decide +kernel
/-- 2,000,000 kg are 10,810,810 dL and a remainder of 1,500: 1,810,810 dL more than the column holds (R9, R28). -/
theorem test_underrun :
    let t := tipper.drawIncrement 2000000
    t.column.segments = [] ∧ t.column.remainder = 1500 ∧ t.column.underrunVolume = 1810810 ∧
    t.column.underrunCount = 1 ∧ t.column.lastReason = some .underrun ∧ t.column.seeded = true := by decide +kernel
/-- Two layers of 20,000,000 dL on 9,000,000 in a pass of 39,070,000 (R11, R23): one event for one change. -/
theorem test_spill :
    let t := tipper.addLayers [plain 20000000 .dry, plain 20000000 .wet]
    t.columnVolume = 39070000 ∧ t.column.spillVolume = 9930000 ∧ t.column.spillCount = 1 ∧
    t.column.lastReason = some .overfull ∧ cold.addLayers [plain 1 .dry] = cold := by decide +kernel
theorem witness_ColumnVolumesAddUp :
    (totalVolume [plain 9000000 .dry] ≤ 9000000 ∧ (plain 1 .wet).volume ≠ 0 ∧ (plain 0 .wet).volume = 0 ∧
      (List.replicate 32 (plain 1 .wet)).length = 32 ∧ (List.replicate 31 (plain 1 .wet)).length < 32) ∧
    -- Re-anchors down, up, at the column's own volume and on an empty list; drift from 50 cm on.
    (volumeBelow bands 20247 = 9000890 ∧ volumeBelow bands 20297 < 9000000 ∧ volumeBelow bands 20197 > 9000000 ∧
      volumeBelow bands 20247 = totalVolume [plain 9000890 .dry] ∧
      (((20247 : Int) - 20297).natAbs = 50 ∧ ((20247 : Int) - 20296).natAbs < tipper.prof.tTol)) ∧
    -- Layers at a SEEDED model with spill and without, and at an UNSEEDED one.
    (tipper.column.seeded = true ∧ cold.column.seeded = false ∧
      (Column.layers tipper.prof.capacity [plain 30070000 .dry] tipper.column).2 = 0 ∧
      (Column.layers tipper.prof.capacity [plain 30070001 .dry] tipper.column).2 = 1) ∧
    (let g := plain 5 .dry
     totalVolume ([] ++ g :: [g]) ≤ 10 ∧ totalVolume [g] ≤ 5 ∧ 9 < totalVolume [g] + g.volume) := by decide +kernel

-- The CRC over 208 bytes is one deep evaluation.
set_option maxRecDepth 100000

/-! A stored image that passes every check, for the restarts. -/

/-- The stored image of the reference profile, without its CRC. -/
def imageBytes : List Byte :=
  let entry (n r brow sensor mount range : Nat) : List Byte :=
    nat1 n ++ nat1 r ++ nat2 brow ++ nat1 sensor ++ nat2 mount ++ nat2 range ++
      (List.replicate 12 [0#8, 20#8]).flatten
  nat2 212 ++ nat1 4 ++ nat1 3 ++ nat4 7 ++
  (bands.map (fun b => nat2 b.height ++ nat2 b.area)).flatten ++ List.replicate 16 0#8 ++ nat2 1850 ++
  entry 1 1 4000 0 0 1 ++ entry 2 1 15000 1 15200 12000 ++ entry 3 2 0 0 0 1 ++
  (profile.classVolumes.map nat4).flatten ++
  ([120, 8, 600, 3, 12, 60, 300, 20, 2, 1000, 20000, 1000, 250, 200].map nat2).flatten ++
  nat4 1000000 ++ nat4 1200000 ++ nat2 300 ++ nat2 50 ++ nat2 300 ++ nat1 8
def image : Memory :=
  (((List.range 212).zip (imageBytes ++ bytes4 (crc32 imageBytes))).filter (fun c => c.2 != 0#8))
def pins (n : Fin 3) : StrapPins := ⟨n.val == 1, n.val == 2, false, n.val == 2, true, false⟩
def stored : State := { tipper with store := { tipper.store with image := image } }

theorem test_image_valid : image.wf = true ∧ imageFailure image false ⟨1, .tip, 20⟩ = none := by decide +kernel
theorem test_image_profile : { imageProfile image with digest := 1 } = profile := by decide +kernel
theorem test_image_torn : imageFailure image true ⟨1, .tip, 20⟩ = some .storeCheck := by decide
theorem test_image_wrong_role : imageFailure image false ⟨1, .draw, 20⟩ = some .stationTable := by decide +kernel
/-- An image whose headroom of 2,001 cm is clamped: at a station of the other role PROFILE is marked and no profile is
in force; with a check that fails before the headroom's, nothing is marked (R2, R180). -/
def overheadBytes : List Byte := imageBytes.take 201 ++ [0x07, 0xD1] ++ imageBytes.drop 203
def overhead : Memory :=
  ((List.range 212).zip (overheadBytes ++ bytes4 (crc32 overheadBytes))).filter (fun c => c.2 != 0#8)
theorem test_headroom_marks :
    (let t := after (.coldRestart (pins 1)) { tipper with store := { tipper.store with image := overhead } }
     t.profileResult = .validClamped 1 ∧ t.isPending .profile = true) ∧
    (let t := after (.coldRestart { pins 0 with role := true })
       { tipper with store := { tipper.store with image := overhead } }
     t.profileResult = .invalid .stationTable ∧ t.isPending .profile = true) ∧
    (let t := after (.coldRestart { pins 0 with role := true }) stored
     t.profileResult = .invalid .stationTable ∧ t.isPending .profile = false) := by decide +kernel
theorem witness_Restarts :
    (let t := after (.coldRestart (pins 0)) stored
     imageFailure t.store.image t.store.torn t.straps = none) ∧
    (let t := after (.warmRestart (pins 0)) tipper
     imageFailure t.store.image t.store.torn t.straps = some .storeCheck) := by decide +kernel
theorem witness_RestartKeeps :
    (let t := after (.warmRestart (pins 0)) stored
     stored.profile = some profile ∧ (t.profile.map Profile.bands) = some profile.bands ∧
     t.profile ≠ none ∧ t.peers.records.map PeerRecord.station = [2, 3] ∧
     (t.peers.records.map PeerRecord.baseline) = [some ⟨30, 240000⟩, some ⟨30, 240000⟩]) ∧
    (let s : State := { stored with peers := ⟨[heardPeer 2 .draw], ⟨false, 0⟩, ⟨false, 0⟩⟩ }
     let t := after (.warmRestart (pins 0)) s
     t.peers.records.map PeerRecord.role = [some .tip, some .draw] ∧
     s.peers.records.map PeerRecord.role = [some .draw]) ∧
    (let s : State := { stored with profile := some { profile with bands := [⟨1, 1⟩] } }
     let t := after (.warmRestart (pins 0)) s
     (t.profile.map Profile.bands) ≠ (s.profile.map Profile.bands) ∧ t.profile ≠ none) ∧
    (after (.warmRestart (pins 0)) tipper).profile = none := by decide +kernel

end Sys2Proof.Tests
end

section
/-! Pass geometry: the heights and volumes of R4 and R5 as mutual inverses, one equation of `volumeUnder`,
`surfaceHeight` and `bandFrom` within the lowest band and one above it. -/

namespace Sys2Proof.Machine

/-- Every band has a height and an area of at least 1 (R1). -/
def BandsSound (bands : List Band) : Prop := ∀ b ∈ bands, 1 ≤ b.height ∧ 1 ≤ b.area

theorem bandsSound_cons {b : Band} {bs : List Band} :
    BandsSound (b :: bs) ↔ (1 ≤ b.height ∧ 1 ≤ b.area) ∧ BandsSound bs := List.forall_mem_cons

@[simp] theorem chuteDepth_nil : chuteDepth [] = 0 := rfl
@[simp] theorem chuteDepth_cons (b : Band) (bs : List Band) : chuteDepth (b :: bs) = b.height + chuteDepth bs := rfl
@[simp] theorem passCapacity_nil : passCapacity [] = 0 := rfl
@[simp] theorem passCapacity_cons (b : Band) (bs : List Band) :
    passCapacity (b :: bs) = b.capacity + passCapacity bs := rfl

theorem Band.capacity_pos {b : Band} (hh : 1 ≤ b.height) (ha : 1 ≤ b.area) : 0 < b.capacity :=
  Nat.mul_pos ha hh

theorem cumulativeCapacity_le (bands : List Band) (k : Nat) : cumulativeCapacity bands k ≤ passCapacity bands := by
  have hsplit : passCapacity bands = passCapacity (bands.take k) + passCapacity (bands.drop k) := by
    simp only [passCapacity, ← List.sum_append, ← List.map_append, List.take_append_drop]
  exact hsplit ▸ Nat.le_add_right _ _

/-! ## Rounding up to a whole centimetre (R5) -/

theorem ceil_mul {a : Nat} (ha : 1 ≤ a) (h : Nat) : (a * h + a - 1) / a = h := by
  rw [Nat.add_sub_assoc ha, Nat.mul_add_div ha, Nat.div_eq_of_lt (by omega), Nat.add_zero]

theorem le_mul_ceil {a : Nat} (ha : 1 ≤ a) (v : Nat) : v ≤ a * ((v + a - 1) / a) := by
  have hdiv := Nat.div_add_mod (v + a - 1) a
  have hmod := Nat.mod_lt (v + a - 1) ha
  omega

theorem mul_ceil_lt {a : Nat} (ha : 1 ≤ a) (v : Nat) : a * ((v + a - 1) / a) < v + a := by
  have hdiv := Nat.mul_div_le (v + a - 1) a
  omega

/-- A part of a band is no higher than the band. -/
theorem ceil_le_height {b : Band} (ha : 1 ≤ b.area) {v : Nat} (hv : v ≤ b.capacity) :
    (v + b.area - 1) / b.area ≤ b.height :=
  calc (v + b.area - 1) / b.area ≤ (b.area * b.height + b.area - 1) / b.area :=
        Nat.div_le_div_right (by unfold Band.capacity at hv; omega)
    _ = b.height := ceil_mul ha b.height

/-! ## Within the lowest band and above it -/

theorem volumeUnder_zero : ∀ bands : List Band, volumeUnder bands 0 = 0
  | [] => rfl
  | b :: bs => by
    unfold volumeUnder
    split
    next h => simp [Band.capacity, Nat.le_zero.mp h, volumeUnder_zero bs]
    next => rfl

theorem volumeUnder_within {b : Band} (bs : List Band) {h : Nat} (hh : h ≤ b.height) :
    volumeUnder (b :: bs) h = b.area * h := by
  unfold volumeUnder
  split
  next hge =>
    obtain rfl : b.height = h := Nat.le_antisymm hge hh
    rw [Nat.sub_self, volumeUnder_zero, Nat.add_zero, Band.capacity]
  next => rfl

theorem volumeUnder_above (b : Band) (bs : List Band) (h : Nat) :
    volumeUnder (b :: bs) (b.height + h) = b.capacity + volumeUnder bs h := by
  rw [volumeUnder, if_pos (Nat.le_add_right _ _), Nat.add_sub_cancel_left]

theorem surfaceHeight_zero {bands : List Band} (hs : BandsSound bands) : surfaceHeight bands 0 = 0 := by
  cases bands with
  | nil => rfl
  | cons b bs =>
    obtain ⟨⟨hh, ha⟩, -⟩ := bandsSound_cons.mp hs
    rw [surfaceHeight, if_neg (Nat.not_le.mpr (Band.capacity_pos hh ha))]
    exact Nat.div_eq_of_lt (by omega)

theorem surfaceHeight_above (b : Band) (bs : List Band) (v : Nat) :
    surfaceHeight (b :: bs) (b.capacity + v) = b.height + surfaceHeight bs v := by
  rw [surfaceHeight, if_pos (Nat.le_add_right _ _), Nat.add_sub_cancel_left]

/-- A full lowest band follows the rounding of a part of it. -/
theorem surfaceHeight_within {b : Band} {bs : List Band} (hs : BandsSound (b :: bs)) {v : Nat} (hv : v ≤ b.capacity) :
    surfaceHeight (b :: bs) v = (v + b.area - 1) / b.area := by
  obtain ⟨⟨-, ha⟩, hbs⟩ := bandsSound_cons.mp hs
  rcases Nat.eq_or_lt_of_le hv with rfl | hlt
  · have habove := surfaceHeight_above b bs 0
    rw [Nat.add_zero, surfaceHeight_zero hbs, Nat.add_zero] at habove
    rw [habove, Band.capacity, ceil_mul ha]
  · rw [surfaceHeight, if_neg (Nat.not_le.mpr hlt)]

theorem bandFrom_within {b : Band} (bs : List Band) (number : Nat) {bottom h : Nat} (hpos : 0 < h) (hh : h ≤ b.height)
    (hb : h ≤ bottom) : bandFrom (b :: bs) number bottom (bottom - h) = some number := by
  rw [bandFrom, if_pos (by omega)]

theorem bandFrom_above {b : Band} (bs : List Band) (number : Nat) {bottom h : Nat} (hpos : 0 < h)
    (hb : b.height + h ≤ bottom) :
    bandFrom (b :: bs) number bottom (bottom - (b.height + h)) =
      bandFrom bs (number + 1) (bottom - b.height) (bottom - b.height - h) := by
  rw [bandFrom, if_neg (by omega), Nat.sub_add_eq]

/-! ## Volume and surface are inverse (R6) -/

theorem volumeUnder_le (bands : List Band) (h : Nat) : volumeUnder bands h ≤ passCapacity bands := by
  induction bands generalizing h with
  | nil => exact Nat.le_refl 0
  | cons b bs ih =>
    rcases Nat.le_total h b.height with hle | hge
    · calc volumeUnder (b :: bs) h = b.area * h := volumeUnder_within bs hle
        _ ≤ b.capacity := Nat.mul_le_mul_left _ hle
        _ ≤ passCapacity (b :: bs) := Nat.le_add_right _ _
    · obtain ⟨d, rfl⟩ := Nat.exists_eq_add_of_le hge
      rw [volumeUnder_above]
      exact Nat.add_le_add_left (ih d) _

/-- Full bands put the surface at their common height. -/
theorem surfaceHeight_cumulativeCapacity {bands : List Band} (hs : BandsSound bands) (k : Nat) :
    surfaceHeight bands (cumulativeCapacity bands k) = chuteDepth (bands.take k) := by
  induction bands generalizing k with
  | nil => rw [List.take_nil]; rfl
  | cons b bs ih =>
    cases k with
    | zero => exact surfaceHeight_zero hs
    | succ k =>
      calc surfaceHeight (b :: bs) (cumulativeCapacity (b :: bs) (k + 1))
          = b.height + surfaceHeight bs (cumulativeCapacity bs k) := surfaceHeight_above b bs _
        _ = chuteDepth ((b :: bs).take (k + 1)) := by rw [ih (bandsSound_cons.mp hs).2]; rfl

theorem surfaceHeight_volumeUnder {bands : List Band} (hs : BandsSound bands) {h : Nat} (hh : h ≤ chuteDepth bands) :
    surfaceHeight bands (volumeUnder bands h) = h := by
  induction bands generalizing h with
  | nil => exact (Nat.le_zero.mp hh).symm
  | cons b bs ih =>
    obtain ⟨⟨-, ha⟩, hbs⟩ := bandsSound_cons.mp hs
    rcases Nat.le_total h b.height with hle | hge
    · rw [volumeUnder_within bs hle, surfaceHeight_within hs (Nat.mul_le_mul_left _ hle), ceil_mul ha]
    · obtain ⟨d, rfl⟩ := Nat.exists_eq_add_of_le hge
      rw [volumeUnder_above, surfaceHeight_above, ih hbs (Nat.le_of_add_le_add_left hh)]

theorem surfaceHeight_le {bands : List Band} (hs : BandsSound bands) {v : Nat} (hv : v ≤ passCapacity bands) :
    surfaceHeight bands v ≤ chuteDepth bands := by
  induction bands generalizing v with
  | nil => exact Nat.le_refl 0
  | cons b bs ih =>
    obtain ⟨⟨-, ha⟩, hbs⟩ := bandsSound_cons.mp hs
    rcases Nat.le_total v b.capacity with hle | hge
    · rw [surfaceHeight_within hs hle]
      exact Nat.le_add_right_of_le (ceil_le_height ha hle)
    · obtain ⟨d, rfl⟩ := Nat.exists_eq_add_of_le hge
      rw [surfaceHeight_above]
      exact Nat.add_le_add_left (ih hbs (Nat.le_of_add_le_add_left hv)) _

/-- The surface covers the volume: rounding goes up. -/
theorem le_volumeUnder_surfaceHeight {bands : List Band} (hs : BandsSound bands) {v : Nat}
    (hv : v ≤ passCapacity bands) : v ≤ volumeUnder bands (surfaceHeight bands v) := by
  induction bands generalizing v with
  | nil => exact hv
  | cons b bs ih =>
    obtain ⟨⟨-, ha⟩, hbs⟩ := bandsSound_cons.mp hs
    rcases Nat.le_total v b.capacity with hle | hge
    · rw [surfaceHeight_within hs hle, volumeUnder_within bs (ceil_le_height ha hle)]
      exact le_mul_ceil ha v
    · obtain ⟨d, rfl⟩ := Nat.exists_eq_add_of_le hge
      rw [surfaceHeight_above, volumeUnder_above]
      exact Nat.add_le_add_left (ih hbs (Nat.le_of_add_le_add_left hv)) _

theorem surfaceHeight_pos {bands : List Band} (hs : BandsSound bands) {v : Nat} (hpos : 0 < v)
    (hv : v ≤ passCapacity bands) : 0 < surfaceHeight bands v := by
  refine Nat.pos_of_ne_zero fun hzero => ?_
  have hcover := le_volumeUnder_surfaceHeight hs hv
  rw [hzero, volumeUnder_zero] at hcover
  omega

/-- The band that holds the surface bounds what rounding up adds; `number` is the number of the first band given and
`bottom` its bottom depth. -/
theorem surface_band_excess {bands : List Band} (hs : BandsSound bands) {v : Nat} (hpos : 0 < v)
    (hv : v ≤ passCapacity bands) (number : Nat) {bottom : Nat} (hb : chuteDepth bands ≤ bottom) :
    ∃ i b, bandFrom bands number bottom (bottom - surfaceHeight bands v) = some (number + i) ∧ bands[i]? = some b ∧
      volumeUnder bands (surfaceHeight bands v) < v + b.area := by
  induction bands generalizing v number bottom with
  | nil => exact absurd hv (Nat.not_le.mpr hpos)
  | cons b bs ih =>
    obtain ⟨⟨-, ha⟩, hbs⟩ := bandsSound_cons.mp hs
    have hpart := surfaceHeight_pos hs hpos hv
    have hdepth := Nat.le_trans (surfaceHeight_le hs hv) hb
    rcases Nat.lt_or_ge b.capacity v with hgt | hle
    · obtain ⟨d, rfl⟩ := Nat.exists_eq_add_of_le (Nat.le_of_lt hgt)
      rw [surfaceHeight_above] at hdepth ⊢
      have hd : 0 < d := by omega
      have hdv : d ≤ passCapacity bs := Nat.le_of_add_le_add_left hv
      have hbottom : chuteDepth bs ≤ bottom - b.height := by rw [chuteDepth_cons] at hb; omega
      obtain ⟨i, c, hband, hget, hexcess⟩ := ih hbs hd hdv (number + 1) hbottom
      refine ⟨i + 1, c, ?_, hget, ?_⟩
      · rw [bandFrom_above bs number (surfaceHeight_pos hbs hd hdv) hdepth, hband, Nat.add_assoc, Nat.add_comm 1 i]
      · rw [volumeUnder_above]; omega
    · rw [surfaceHeight_within hs hle] at hpart hdepth ⊢
      have hwithin := ceil_le_height ha hle
      refine ⟨0, b, bandFrom_within bs number hpart hwithin hdepth, rfl, ?_⟩
      rw [volumeUnder_within bs hwithin]
      exact mul_ceil_lt ha v

/-! ## The same at depths -/

theorem surfaceDepth_eq {bands : List Band} {v : Nat} (hv : v ≤ passCapacity bands) :
    surfaceDepth bands v = chuteDepth bands - surfaceHeight bands v := by
  rw [surfaceDepth, Nat.min_eq_left hv]

theorem volumeBelow_eq {bands : List Band} {x : Nat} (hx : x ≤ chuteDepth bands) :
    volumeBelow bands x = volumeUnder bands (chuteDepth bands - x) := by
  rw [volumeBelow, Nat.min_eq_left hx]

theorem volumeBelow_surfaceDepth {bands : List Band} (hs : BandsSound bands) {v : Nat} (hv : v ≤ passCapacity bands) :
    volumeBelow bands (surfaceDepth bands v) = volumeUnder bands (surfaceHeight bands v) := by
  rw [surfaceDepth_eq hv, volumeBelow_eq (Nat.sub_le _ _), Nat.sub_sub_self (surfaceHeight_le hs hv)]

theorem surfaceDepth_cumulativeCapacity {bands : List Band} (hs : BandsSound bands) (k : Nat) :
    surfaceDepth bands (cumulativeCapacity bands k) = topDepth bands k := by
  rw [surfaceDepth_eq (cumulativeCapacity_le bands k), surfaceHeight_cumulativeCapacity hs, topDepth]

theorem surfaceDepth_volumeBelow {bands : List Band} (hs : BandsSound bands) {x : Nat} (hx : x ≤ chuteDepth bands) :
    surfaceDepth bands (volumeBelow bands x) = x := by
  rw [volumeBelow_eq hx, surfaceDepth_eq (volumeUnder_le _ _), surfaceHeight_volumeUnder hs (Nat.sub_le _ _),
    Nat.sub_sub_self hx]

theorem volumeBelow_surfaceDepth_zero {bands : List Band} (hs : BandsSound bands) :
    volumeBelow bands (surfaceDepth bands 0) = 0 := by
  rw [volumeBelow_surfaceDepth hs (Nat.zero_le _), surfaceHeight_zero hs, volumeUnder_zero]

theorem surface_covers_volume {bands : List Band} (hs : BandsSound bands) {v : Nat} (hpos : 0 < v)
    (hv : v ≤ passCapacity bands) :
    v ≤ volumeBelow bands (surfaceDepth bands v) ∧
    ∃ k b, bandOf bands (surfaceDepth bands v) = some k ∧ bands[k - 1]? = some b ∧
      volumeBelow bands (surfaceDepth bands v) < v + b.area := by
  rw [volumeBelow_surfaceDepth hs hv, surfaceDepth_eq hv]
  obtain ⟨i, b, hband, hget, hexcess⟩ := surface_band_excess hs hpos hv 1 (Nat.le_refl _)
  exact ⟨le_volumeUnder_surfaceHeight hs hv, 1 + i, b, hband, by rwa [Nat.add_sub_cancel_left], hexcess⟩

/-- Settles O58, from the inverse laws of R6 and the rounding of R5 in the band that holds the surface. -/
theorem volumeAndSurfaceInverse : Obligations.VolumeAndSurfaceInverse := by
  intro bands hs
  exact ⟨fun k _ => surfaceDepth_cumulativeCapacity hs k, fun _ hx => surfaceDepth_volumeBelow hs hx,
    volumeBelow_surfaceDepth_zero hs, fun _ hpos hv => surface_covers_volume hs hpos hv⟩

end Sys2Proof.Machine
end

section
/-! Draw increments: the remainder of R9 over a split mass, what leaves the bottom of a segment list (R27), and the
statements' own account of a change of the column (R19, R51), tied to the model's. -/

namespace Sys2Proof.Machine

/-! ## The drawn volume (R9) -/

theorem drawnVolume_zero {density remainder : Nat} (h : remainder < density) :
    drawnVolume density remainder 0 = (0, remainder) := by
  simp [drawnVolume, Nat.div_eq_of_lt h, Nat.mod_eq_of_lt h]

/-- What a division leaves over, carried into the next one, loses nothing. -/
theorem div_add_carry {d : Nat} (hd : 1 ≤ d) (x y : Nat) : (y + x) / d = x / d + (y + x % d) / d :=
  calc (y + x) / d = (d * (x / d) + (y + x % d)) / d := by rw [Nat.add_left_comm, Nat.div_add_mod]
    _ = x / d + (y + x % d) / d := Nat.mul_add_div hd _ _

/-- Two increments one after the other are the increment of their sum. -/
theorem drawnVolume_add {density : Nat} (hd : 1 ≤ density) (remainder m n : Nat) :
    drawnVolume density remainder (m + n) =
      ((drawnVolume density remainder m).1 + (drawnVolume density (drawnVolume density remainder m).2 n).1,
       (drawnVolume density (drawnVolume density remainder m).2 n).2) := by
  have hsum : (m + n) * 10000 + remainder = n * 10000 + (m * 10000 + remainder) := by omega
  simp only [drawnVolume, hsum, div_add_carry hd (m * 10000 + remainder), Nat.add_mod_mod]

/-- One more increment of a split: its volume joins what went before, and its remainder stands. -/
def drawSplit (density : Nat) (x : Nat × Nat) (mass : Nat) : Nat × Nat :=
  (x.1 + (drawnVolume density x.2 mass).1, (drawnVolume density x.2 mass).2)

theorem foldl_drawSplit {density : Nat} (hd : 1 ≤ density) (masses : List Nat) (taken : Nat) {remainder : Nat}
    (hr : remainder < density) :
    masses.foldl (drawSplit density) (taken, remainder) = drawSplit density (taken, remainder) masses.sum := by
  induction masses generalizing taken remainder with
  | nil => simp [drawSplit, drawnVolume_zero hr]
  | cons m ms ih =>
    have hnext : (drawnVolume density remainder m).2 < density := Nat.mod_lt _ hd
    rw [List.foldl_cons, List.sum_cons, drawSplit, ih _ hnext]
    simp only [drawSplit, drawnVolume_add hd, Nat.add_assoc]

theorem foldl_drawnVolume {density remainder : Nat} (hd : 1 ≤ density) (hr : remainder < density)
    (masses : List Nat) :
    masses.foldl (drawSplit density) (0, remainder) = drawnVolume density remainder masses.sum := by
  rw [foldl_drawSplit hd masses 0 hr, drawSplit, Nat.zero_add]

/-! ## Volume taken from the bottom (R27) -/

@[simp] theorem totalVolume_nil : totalVolume [] = 0 := rfl
@[simp] theorem totalVolume_cons (g : Segment) (gs : List Segment) :
    totalVolume (g :: gs) = g.volume + totalVolume gs := rfl

/-- Segments that the volume covers leave whole. -/
theorem takeVolume_append {gone : List Segment} {v : Nat} (h : totalVolume gone ≤ v) (rest : List Segment) :
    takeVolume (gone ++ rest) v = takeVolume rest (v - totalVolume gone) := by
  induction gone generalizing v with
  | nil => rfl
  | cons g gs ih =>
    rw [totalVolume_cons] at h ⊢
    rw [List.cons_append, takeVolume, if_neg (by omega), ih (by omega), Nat.sub_add_eq]

theorem takeVolume_all {segments : List Segment} {v : Nat} (h : totalVolume segments ≤ v) :
    takeVolume segments v = [] := by
  simpa [takeVolume] using takeVolume_append h []

theorem takeVolume_part {gone rest : List Segment} {g : Segment} {v : Nat} (h : totalVolume gone ≤ v)
    (hg : v < totalVolume gone + g.volume) :
    takeVolume (gone ++ g :: rest) v = { g with volume := g.volume - (v - totalVolume gone) } :: rest := by
  rw [takeVolume_append h, takeVolume, if_pos (by omega)]

/-! ## A change of the column, as the statements say it -/

theorem wetStatusNow_unseeded {s : State} (h : s.column.seeded = false) : wetStatusNow s = .clear :=
  if_pos (Or.inl h)

theorem wetStatusNow_seeded {s : State} (h : s.column.seeded = true) :
    wetStatusNow s = wetStatus (zoneVolume s.prof.drawZone s.column.segments)
      (wetVolume s.prof.drawZone s.column.segments) := by
  by_cases hwet : wetVolume s.prof.drawZone s.column.segments = 0
  · rw [wetStatus, if_pos hwet]
    exact if_pos (Or.inr hwet)
  · rw [wetStatus, if_neg hwet]
    exact if_neg (not_or.mpr ⟨ne_false_of_eq_true h, hwet⟩)

theorem columnWet_unseeded {s : State} (h : s.column.seeded = false) : s.columnWet = .clear := by
  rw [State.columnWet, State.wetZone, h]; rfl

theorem columnWet_seeded {s : State} (h : s.column.seeded = true) :
    s.columnWet = wetStatus (zoneVolume s.prof.drawZone s.column.segments)
      (wetVolume s.prof.drawZone s.column.segments) := by
  rw [State.columnWet, State.zone, State.wetZone, if_pos h, if_pos h]

theorem wetStatusNow_eq (s : State) : wetStatusNow s = s.columnWet := by
  cases h : s.column.seeded with
  | false => rw [wetStatusNow_unseeded h, columnWet_unseeded h]
  | true => rw [wetStatusNow_seeded h, columnWet_seeded h]

theorem wetEvaluated_eq (s : State) : wetEvaluated s = s.evaluateWet := by
  rw [wetEvaluated, State.evaluateWet, wetStatusNow_eq]
  by_cases h : s.columnWet = s.watch.wet
  · rw [if_pos h, if_pos h.symm]
  · rw [if_neg h, if_neg (Ne.symm h)]; rfl

theorem columnTaken_eq (c : Column) (s : State) : columnTaken c s = s.setColumn c := by
  rw [columnTaken, wetEvaluated_eq]; rfl

theorem modelTold_eq (r : ModelReason) (s : State) : modelTold r s = s.modelEvent r := rfl

/-! ## A draw increment at the column (R27 to R29) -/

theorem drawIncrement_zero (s : State) : s.drawIncrement 0 = s := if_pos (Or.inr rfl)

theorem drawIncrement_unseeded {s : State} (h : s.column.seeded = false) (mass : Nat) : s.drawIncrement mass = s :=
  if_pos (Or.inl h)

theorem afterDraw_covered {density mass : Nat} {c : Column}
    (h : (mass * 10000 + c.remainder) / density ≤ totalVolume c.segments) :
    c.afterDraw density mass =
      { c with segments := takeVolume c.segments ((mass * 10000 + c.remainder) / density)
               remainder := (mass * 10000 + c.remainder) % density } :=
  if_pos h

theorem afterDraw_underrun {density mass : Nat} {c : Column}
    (h : ¬(mass * 10000 + c.remainder) / density ≤ totalVolume c.segments) :
    c.afterDraw density mass =
      { c with segments := takeVolume c.segments ((mass * 10000 + c.remainder) / density)
               remainder := (mass * 10000 + c.remainder) % density
               underrunVolume := min (c.underrunVolume +
                 ((mass * 10000 + c.remainder) / density - totalVolume c.segments)) 4294967295
               underrunCount := min (c.underrunCount + 1) 65535 } :=
  if_neg h

theorem drawIncrement_covered {s : State} {mass : Nat} (hs : s.column.seeded = true) (hm : mass ≠ 0)
    (h : (mass * 10000 + s.column.remainder) / s.prof.density ≤ s.columnVolume) :
    s.drawIncrement mass = s.setColumn (s.column.afterDraw s.prof.density mass) := by
  rw [State.drawIncrement, if_neg (by simp [hs, hm])]
  exact if_pos h

theorem drawIncrement_underrun {s : State} {mass : Nat} (hs : s.column.seeded = true) (hm : mass ≠ 0)
    (h : ¬(mass * 10000 + s.column.remainder) / s.prof.density ≤ s.columnVolume) :
    s.drawIncrement mass = (s.setColumn (s.column.afterDraw s.prof.density mass)).modelEvent .underrun := by
  rw [State.drawIncrement, if_neg (by simp [hs, hm])]
  exact if_neg h

theorem drawIncrement_eq_massDrawn {s : State} {mass : Nat} (hs : s.column.seeded = true) (hm : mass ≠ 0) :
    s.drawIncrement mass = massDrawn mass s := by
  by_cases h : (mass * 10000 + s.column.remainder) / s.prof.density ≤ s.columnVolume
  · rw [drawIncrement_covered hs hm h, afterDraw_covered h, ← columnTaken_eq]
    exact (if_pos h).symm
  · rw [drawIncrement_underrun hs hm h, afterDraw_underrun h, ← columnTaken_eq, ← modelTold_eq]
    exact (if_neg h).symm

/-- Settles O59, from the sum law of R9, the removal of R27 and the model's change of the column. -/
theorem drawnVolumeIgnoresSplit : Obligations.DrawnVolumeIgnoresSplit := by
  refine ⟨fun density remainder masses hd hr => ?_, fun mass s => ?_, fun gone rest g v => ?_⟩
  · exact ⟨fun _ => rfl, drawnVolume_zero hr, foldl_drawnVolume hd hr masses⟩
  · exact ⟨drawIncrement_zero s, fun hs => drawIncrement_unseeded hs mass, drawIncrement_eq_massDrawn⟩
  · exact ⟨takeVolume_all, takeVolume_part⟩

end Sys2Proof.Machine
end

section
/-! Hold requests: the tests of HALT, HALT-RELEASE, ENTRY, ENTRY-RELEASE and HANGUP-CLEAR as the refusals of R50, R60,
R64 and R65, the causes that R64 lets a release take, and the effect of each request on the own entries. -/

namespace Sys2Proof.Machine

/-! ## Sets of causes -/

theorem Causes.isEmpty_iff (c : Causes) : c.isEmpty = true ↔ c = Causes.none := by
  cases c
  simp [Causes.isEmpty, Causes.none, and_assoc]

/-- Taking away the common causes takes away all that there are to take. -/
theorem Causes.minus_inter (c d : Causes) : c.minus (c.inter d) = c.minus d := by
  simp only [Causes.minus, Causes.inter, Bool.not_and, Bool.and_or_distrib_left, Bool.and_not_self, Bool.false_or]

theorem Causes.union_ofOperator (c : Causes) : c.union Causes.ofOperator = { c with operator := true } := by
  simp [Causes.union, Causes.ofOperator, Causes.none]

/-! ## What a HALT-RELEASE can take (R64) -/

/-- Both gates proven closed, neither in FAULT. -/
theorem gatesShown_eq (s : State) :
    s.gatesShown = decide (s.ProvenClosed .a ∧ s.ProvenClosed .b ∧ s.gates.a.state.isFault = false ∧
      s.gates.b.state.isFault = false) := by
  rw [Bool.eq_iff_iff, decide_eq_true_iff, ← provenClosed_iff, ← provenClosed_iff]
  simp only [State.gatesShown, Bool.and_eq_true, Bool.not_eq_true', and_assoc]

/-- The statement's own account of the causes a release takes is the model's: those held that are removable. -/
theorem releasedCauses_eq (s : State) : releasedCauses s = s.ownCauses.inter s.removable := by
  simp only [releasedCauses, ← gatesShown_eq, Causes.inter, State.removable, State.loopClosed, Bool.and_true,
    Bool.and_false]

theorem remainingAfterRelease_eq (s : State) : remainingAfterRelease s = s.remainingCauses := by
  rw [remainingAfterRelease, releasedCauses_eq, Causes.minus_inter, State.remainingCauses]

theorem closeWindow_eq (s : State) :
    s.closeWindow = if s.ownCauses.restart = true then { s with port := { s.port with window := false } } else s :=
  rfl

theorem releaseHalt_eq (s : State) :
    s.releaseHalt =
      if remainingAfterRelease s = Causes.none then s.closeWindow.removeHold s.own .halt
      else s.closeWindow.enterHold s.own (.halt (remainingAfterRelease s)) := by
  simp only [State.releaseHalt, Causes.isEmpty_iff, remainingAfterRelease_eq]

/-! ## The tests as refusals -/

theorem live_iff_not_not (s : State) : s.mode.live = true ↔ ¬¬s.Live := (live_iff s).trans Classical.not_not.symm

theorem held_iff_not_not (kind : HoldKind) (s : State) : (s.holdOf s.own kind).isSome = true ↔ ¬¬s.HoldsOwn kind :=
  (holdOf_iff kind s).trans Classical.not_not.symm

theorem takes_iff (s : State) :
    (!(s.ownCauses.inter s.removable).isEmpty) = true ↔ ¬releasedCauses s = Causes.none := by
  rw [releasedCauses_eq, ← Causes.isEmpty_iff, Bool.not_eq_true', Bool.not_eq_true]

theorem firstFailing_live (s : State) : firstFailing [s.testLive] = liveRefusal s :=
  firstFailing_step (live_iff_not_not s) firstFailing_nil

theorem firstFailing_release (kind : HoldKind) (s : State) :
    firstFailing [s.testLive, s.testHeld kind] = releaseRefusal kind s :=
  firstFailing_step (live_iff_not_not s) (firstFailing_step (held_iff_not_not kind s) firstFailing_nil)

theorem firstFailing_haltRelease (s : State) : firstFailing s.haltReleaseTests = haltReleaseRefusal s :=
  firstFailing_step (live_iff_not_not s)
    (firstFailing_step (held_iff_not_not .halt s) (firstFailing_step (takes_iff s) firstFailing_nil))

/-! ## The requests, where the port takes them -/

/-- Outside STARTING a cause joins the own HALT on the list (R60). -/
theorem addOwnCause_of_started {s : State} (h : s.mode ≠ .starting) (c : Causes) :
    s.addOwnCause c = s.enterHold s.own (.halt (s.ownCauses.union c)) := if_neg h

theorem exec_halt {s : State} (h : s.TakesRequests) :
    exec .halt s = .next (answerWith 10 (liveRefusal s) .accepted
      ((s.enterHold s.own (.halt { s.ownCauses with operator := true })).inform s) s) := by
  have ⟨_, hmode⟩ := h
  rw [← firstFailing_live, ← Causes.union_ofOperator, ← addOwnCause_of_started hmode]
  exact congrArg Host.Outcome.next (request_taken _ _ _ _ s h)

theorem exec_haltRelease {s : State} (h : s.TakesRequests) :
    exec .haltRelease s = .next (answerWith 11 (haltReleaseRefusal s) (.acceptedCauses (remainingAfterRelease s))
      (s.releaseHalt.inform s) s) := by
  rw [← firstFailing_haltRelease, remainingAfterRelease_eq]
  exact congrArg Host.Outcome.next (request_taken _ _ _ _ s h)

theorem exec_entry {s : State} (h : s.TakesRequests) :
    exec .entry s = .next (answerWith 12 (liveRefusal s) .accepted ((s.enterHold s.own .entry).inform s) s) := by
  rw [← firstFailing_live]
  exact congrArg Host.Outcome.next (request_taken _ _ _ _ s h)

theorem exec_entryRelease {s : State} (h : s.TakesRequests) :
    exec .entryRelease s = .next (answerWith 13 (releaseRefusal .entry s) .accepted
      ((s.removeHold s.own .entry).inform s) s) := by
  rw [← firstFailing_release]
  exact congrArg Host.Outcome.next (request_taken _ _ _ _ s h)

theorem exec_hangupClear {s : State} (h : s.TakesRequests) :
    exec .hangupClear s = .next (answerWith 14 (releaseRefusal .hangup s) .accepted (s.liftHangup.inform s) s) := by
  rw [← firstFailing_release]
  exact congrArg Host.Outcome.next (request_taken _ _ _ _ s h)

/-- Settles O26, request by request: the model's tests are the refusals of R50, R60, R64 and R65, and a release's
causes are those of R64's table. -/
theorem holdRequestsAnswered : Obligations.HoldRequestsAnswered := by
  refine ⟨fun s h => ⟨exec_halt h, ?_⟩, fun s h => ⟨exec_entry h, exec_entryRelease h, exec_hangupClear h⟩⟩
  rw [exec_haltRelease h, releaseHalt_eq, closeWindow_eq]

end Sys2Proof.Machine
end

section
/-! TIP and its OFFER: the eleven tests of R76 as the refusal's chain, the accepted request of R77, and how an OFFER is
judged against the room and decides the own tip (R78, R90). -/

namespace Sys2Proof.Machine

/-! ## The tests of TIP (R76) -/

theorem beq_iff_not_ne {α : Type} [BEq α] [LawfulBEq α] (a b : α) : (a == b) = true ↔ ¬a ≠ b :=
  beq_iff_eq.trans Classical.not_not.symm

theorem tipBytes_iff (cls moisture : Byte) :
    (decide (1 ≤ cls.toNat) && decide (cls.toNat ≤ 6) && (moistureOf moisture).isSome) = true ↔
      ¬¬(1 ≤ cls.toNat ∧ cls.toNat ≤ 6 ∧ 1 ≤ moisture.toNat ∧ moisture.toNat ≤ 4) := by
  rw [Classical.not_not, Bool.and_eq_true, moistureOf_isSome, Bool.and_eq_true, decide_eq_true_iff,
    decide_eq_true_iff, and_assoc]

theorem seeded_iff (s : State) : s.column.seeded = true ↔ ¬s.column.seeded = false :=
  (Bool.not_eq_false _).symm.to_iff

theorem offerQueued_iff (s : State) :
    s.line.queue.any (QueuedFrame.hasKind .offer) = true ↔ ∃ q ∈ s.line.queue, q.frame.kind = .offer := by
  simp [QueuedFrame.hasKind]

/-- Test 9: the tip is IDLE, and no OFFER stands in the queue. -/
theorem tipFree_iff (s : State) :
    s.tipFree = true ↔ ¬(s.tip.stage ≠ .idle ∨ ∃ q ∈ s.line.queue, q.frame.kind = .offer) := by
  rw [State.tipFree, Bool.and_eq_true, beq_iff_not_ne, Bool.not_eq_true', ← Bool.not_eq_true, offerQueued_iff, not_or]

/-- Test 11: the room for a fresh check is at least the volume. -/
theorem freshRoom_iff (volume : Nat) (s : State) :
    decide (volume ≤ s.freshRoom) = true ↔
      ¬roomBelow s.prof.bands (s.prof.limitDepth s.own) s.columnVolume (reservedVolume s.reservations) < volume :=
  decide_eq_true_iff.trans Nat.not_lt.symm

theorem firstFailing_tip (cls moisture : Byte) (s : State) :
    firstFailing (s.tipTests cls moisture) = tipRefusal cls moisture s :=
  firstFailing_step (beq_iff_not_ne s.straps.role .tip) <|
  firstFailing_step (tipBytes_iff cls moisture) <|
  firstFailing_step (beq_iff_not_ne s.mode .ready) <|
  firstFailing_step (noHold_iff .halt s) <|
  firstFailing_step (noOwnHold_iff .entry s) <|
  firstFailing_step (noHold_iff .hangup s) <|
  firstFailing_step (seeded_iff s) <|
  firstFailing_step (beq_iff_not_ne s.line.state .active) <|
  firstFailing_step (tipFree_iff s) <|
  firstFailing_step (beq_iff_not_ne s.breaker.state .parked) <|
  firstFailing_step (freshRoom_iff _ s) firstFailing_nil

/-! ## An accepted TIP (R77) -/

theorem requestTip_eq (cls moisture : Byte) (s : State) :
    s.requestTip cls.toNat (moistureRead moisture) = tipTaken cls moisture s := rfl

theorem role_of_tipRefusal_none {cls moisture : Byte} {s : State} (h : tipRefusal cls moisture s = none) :
    s.straps.role = .tip := by
  refine Classical.byContradiction fun hrole => ?_
  rw [tipRefusal, if_pos hrole] at h
  cases h

@[simp] theorem tipTaken_straps (cls moisture : Byte) (s : State) : (tipTaken cls moisture s).straps = s.straps :=
  outer_straps (handOver_outer _ _)

/-- The tip asked for is REQUESTED, or over already where its OFFER was lost (R136). -/
theorem tipTaken_not_offered (cls moisture : Byte) (s : State) :
    (tipTaken cls moisture s).tip.stage.isOffered = false := handOver_isOffered _ _ rfl

/-- The end of the event adds nothing to an accepted TIP: it rechecks the room of an OFFERED tip alone (R83). -/
theorem tipTaken_inform {s : State} (hrole : s.straps.role = .tip) (cls moisture : Byte) :
    (tipTaken cls moisture s).inform s = tipTaken cls moisture s :=
  inform_not_offered (by rw [tipTaken_straps, hrole]) (tipTaken_not_offered cls moisture s)

/-- Settles O13: the tests are R76's, and no sequencer acts on an accepted TIP. -/
theorem tipAnswered : Obligations.TipAnswered := by
  intro cls moisture s h
  calc exec (.tip cls moisture) s
      = .next (answerWith 1 (tipRefusal cls moisture s) .accepted ((tipTaken cls moisture s).inform s) s) := by
        rw [← firstFailing_tip, ← requestTip_eq]
        exact congrArg Host.Outcome.next (request_taken _ _ _ _ s h)
    _ = .next (answerWith 1 (tipRefusal cls moisture s) .accepted (tipTaken cls moisture s) s) :=
        congrArg Host.Outcome.next
          (answerWith_congr fun hnone => tipTaken_inform (role_of_tipRefusal_none hnone) cls moisture)

/-! ## An OFFER judged (R90) -/

theorem loadInRange_iff (cls volume : Nat) :
    loadInRange cls volume = true ↔ 1 ≤ cls ∧ cls ≤ 6 ∧ 1000 ≤ volume ∧ volume ≤ 600000 := by
  simp only [loadInRange, Bool.and_eq_true, decide_eq_true_iff, and_assoc]

/-- An OFFER of no TIP station, or out of range, is not taken. -/
theorem judgeOffer_not_taken {station cls volume : Nat} {s : State}
    (h : s.roleOf station ≠ some .tip ∨ ¬(1 ≤ cls ∧ cls ≤ 6 ∧ 1000 ≤ volume ∧ volume ≤ 600000)) :
    s.judgeOffer station cls volume = s := by
  refine if_neg fun ⟨hrole, hload⟩ => ?_
  have hrange := (loadInRange_iff cls volume).mp hload
  exact h.elim (· hrole) (· hrange)

/-- An OFFER that is taken: the station's entry leaves, and a new one joins where the model is UNSEEDED or the room, the
other entries counted, is at least the volume. -/
theorem judgeOffer_taken {station cls volume : Nat} {s : State} (hrole : s.roleOf station = some .tip)
    (hrange : 1 ≤ cls ∧ cls ≤ 6 ∧ 1000 ≤ volume ∧ volume ≤ 600000) :
    s.judgeOffer station cls volume =
      if s.column.seeded = false ∨ volume ≤ s.room station (reservationGone station s).reservations then
        { reservationGone station s with
          reservations := (reservationGone station s).reservations ++ [⟨station, cls, volume, s.time⟩] }
      else reservationGone station s :=
  if_pos ⟨hrole, (loadInRange_iff cls volume).mpr hrange⟩

/-! ## What the judged OFFER decides for the own tip (R78) -/

theorem reservationOf_isSome (station : Nat) (l : List Reservation) :
    (reservationOf station l).isSome = true ↔ ∃ r ∈ l, r.station = station := by
  simp [reservationOf, List.find?_isSome]

theorem tipEnd_eq (o : Outcome) (load : Load) (s : State) : s.tipEnd o load = tipOver o load s := rfl

theorem ownOfferJudged_requested {s : State} {load : Load} (h : s.tip.stage = .requested load) :
    s.ownOfferJudged =
      if ∃ r ∈ s.reservations, r.station = s.own then
        { s with tip := { s.tip with stage := .offered load, offerTimer := ⟨true, s.prof.offerTimeout * 1000⟩ } }
      else (tipOver .noRoom load s).handOver (.withdraw .noRoom) := by
  simp only [State.ownOfferJudged, h, reservationOf_isSome, tipEnd_eq]
  rfl

theorem ownOfferJudged_not_requested {s : State} (h : ∀ load, s.tip.stage ≠ .requested load) :
    s.ownOfferJudged = s := by
  cases hstage : s.tip.stage with
  | requested load => exact absurd hstage (h load)
  | idle | offered _ | tipping _ | settling _ => simp only [State.ownOfferJudged, hstage]

/-- Settles O33, from the branches of R90 at the reservation list and of R78 at the tip. -/
theorem offersJudged : Obligations.OffersJudged := by
  refine ⟨fun station cls volume s => ⟨judgeOffer_not_taken, judgeOffer_taken⟩,
    fun s => ⟨fun load hstage hentry => ?_, fun load hstage hnone => ?_, ownOfferJudged_not_requested⟩⟩
  · rw [ownOfferJudged_requested hstage, if_pos hentry]
  · rw [ownOfferJudged_requested hstage, if_neg fun ⟨r, hr, hown⟩ => hnone r hr hown]

end Sys2Proof.Machine
end

section
/-! BREAK, BREAK-RENEW and BREAK-STOP: the tests of R96, R98 and R99 as the refusals' chains, the effects of R97, R98
and R99 as the statements write them out, and why the end of the event adds nothing to them. -/

namespace Sys2Proof.Machine

/-! ## The tests as refusals -/

/-- One test of an acceptance rule, the tests that follow being reached only where it passes. -/
theorem firstFailing_step_passed {b : Bool} {a : AnswerBody} {rest : List (Bool × AnswerBody)} {P : Prop}
    [Decidable P] {x : Option AnswerBody} (h : b = true ↔ ¬P) (r : ¬P → firstFailing rest = x) :
    firstFailing ((b, a) :: rest) = if P then some a else x :=
  (firstFailing_step h rfl).trans (ite_congr rfl (fun _ => rfl) r)

theorem tokenByte_iff (token : Byte) : (tokenOf token).isSome = true ↔ ¬1 < token.toNat :=
  (tokenOf_isSome token).trans Nat.not_lt.symm

/-- Tests 5 to 7 of R96 read the tip's stage, then the breaker's state. -/
theorem firstFailing_break (s : State) : firstFailing s.breakTests = breakRefusal s := by
  refine
    firstFailing_step (beq_iff_not_ne s.straps.role .tip) <|
    firstFailing_step (beq_iff_not_ne s.mode .ready) <|
    firstFailing_step (noHold_iff .halt s) <|
    firstFailing_step (noOwnHold_iff .entry s) ?_
  cases hstage : s.tip.stage with
  | tipping _ => simp [firstFailing, State.tipping, hstage]
  | idle | requested _ | offered _ | settling _ =>
    cases hstate : s.breaker.state <;>
      simp [firstFailing, State.tipping, State.breakerFaulted, State.breakerParked, hstage, hstate]

/-- Test 4 of R98 compares a token that test 2 has found to be one. -/
theorem firstFailing_breakRenew (token : Byte) (s : State) :
    firstFailing (s.breakRenewTests token) = breakRenewRefusal token s := by
  refine
    firstFailing_step (beq_iff_not_ne s.straps.role .tip) <|
    firstFailing_step_passed (tokenByte_iff token) fun htoken => ?_
  have hread := tokenOf_eq (Nat.not_lt.mp htoken)
  cases hstate : s.breaker.state with
  | working last => simp [firstFailing, State.workToken, hstate, hread]
  | parked | returning | fault _ => simp [firstFailing, State.workToken, hstate]

theorem firstFailing_breakStop (s : State) : firstFailing s.breakStopTests = breakStopRefusal s := by
  refine firstFailing_step (beq_iff_not_ne s.straps.role .tip) ?_
  cases hstate : s.breaker.state with
  | working _ => simp [firstFailing, State.workToken, hstate]
  | parked | returning | fault _ => simp [firstFailing, State.workToken, hstate]

/-! ## What an accepted request has passed -/

theorem role_of_breakRefusal_none {s : State} (h : breakRefusal s = none) : s.straps.role = .tip := by
  refine Classical.byContradiction fun hrole => ?_
  rw [breakRefusal, if_pos hrole] at h
  cases h

theorem token_of_breakRenewRefusal_none {token : Byte} {s : State} (h : breakRenewRefusal token s = none) :
    tokenOf token = some (decide (token.toNat = 1)) := by
  refine tokenOf_eq (Nat.not_lt.mp fun htoken => ?_)
  rw [breakRenewRefusal, if_pos htoken] at h
  split at h <;> cases h

theorem working_of_breakStopRefusal_none {s : State} (h : breakStopRefusal s = none) :
    ∃ token, s.breaker.state = .working token := by
  rw [breakStopRefusal] at h
  cases hstate : s.breaker.state with
  | working token => exact ⟨token, rfl⟩
  | parked | returning | fault _ =>
    simp only [hstate] at h
    split at h <;> cases h

/-! ## The tip sequencer told of the breaker (R84, R86, R103) -/

theorem informBreakerOut_eq (s : State) : s.informBreakerOut = breakerOutAtTip s := by
  unfold State.informBreakerOut breakerOutAtTip
  cases s.tip.stage <;> rfl

/-- With the breaker out no tip stands OFFERED: it is withdrawn (R84). -/
theorem informBreakerOut_not_offered (s : State) : s.informBreakerOut.tip.stage.isOffered = false := by
  unfold State.informBreakerOut
  split
  next hstage => rw [hstage]; rfl
  next => exact withdrawTip_isOffered _ s
  next => exact withdrawTip_isOffered _ s
  next => rfl
  next => rfl

theorem enterBreaker_parked (s : State) : s.enterBreaker .parked = breakerTo .parked s := rfl

theorem parkBreaker_eq (s : State) : s.parkBreaker = breakerHome s := by
  rw [State.parkBreaker, enterBreaker_parked, State.informBreakerIn, breakerHome]
  cases (breakerTo .parked s).tip.stage <;> rfl

theorem informBreakerIn_keeps (s : State) :
    s.informBreakerIn.column = s.column ∧ s.informBreakerIn.reservations = s.reservations ∧
    s.informBreakerIn.watch = s.watch := by
  unfold State.informBreakerIn
  split <;> exact ⟨rfl, rfl, rfl⟩

/-! ## The effects -/

/-- Work granted: WORKING with token 0 and a full renewal window, BREAKER-CHANGE, and the tip sequencer told. -/
theorem grantWork_eq (s : State) :
    s.grantWork = breakerOutAtTip (State.mark .breakerChange { s with breaker :=
      { s.breaker with state := .working false, renewal := ⟨true, s.prof.renewalWindow⟩ } }) :=
  informBreakerOut_eq _

@[simp] theorem grantWork_straps (s : State) : s.grantWork.straps = s.straps :=
  outer_straps (informBreakerOut_outer _)

/-- Of an accepted BREAK the end of the event tells the tip nothing more: it is not OFFERED any more. -/
theorem grantWork_inform {s : State} (hrole : s.straps.role = .tip) : s.grantWork.inform s = s.grantWork :=
  inform_not_offered (by rw [grantWork_straps, hrole]) (informBreakerOut_not_offered _)

theorem keepWorking_inform (token : Bool) (s : State) : (s.keepWorking token).inform s = s.keepWorking token :=
  inform_same rfl rfl rfl

theorem endBreakerWork_eq {s : State} {token : Bool} (h : s.breaker.state = .working token) (cause : WorkEnd) :
    s.endBreakerWork cause = workOver cause s := by
  simp only [State.endBreakerWork, h, parkBreaker_eq]
  rfl

theorem endBreakerWork_keeps (cause : WorkEnd) (s : State) :
    (s.endBreakerWork cause).column = s.column ∧ (s.endBreakerWork cause).reservations = s.reservations ∧
    (s.endBreakerWork cause).watch = s.watch := by
  unfold State.endBreakerWork
  split
  · dsimp only
    split
    · exact informBreakerIn_keeps _
    · exact ⟨rfl, rfl, rfl⟩
  all_goals exact ⟨rfl, rfl, rfl⟩

theorem endBreakerWork_inform (cause : WorkEnd) (s : State) :
    (s.endBreakerWork cause).inform s = s.endBreakerWork cause := by
  obtain ⟨hcolumn, hreservations, hwatch⟩ := endBreakerWork_keeps cause s
  exact inform_same hcolumn hreservations (congrArg Watch.wet hwatch)

/-! ## The requests, where the port takes them -/

/-- A request that the port takes, its tests read as a refusal and the end of its event as an effect; the effect need
be known only where nothing refuses it. -/
theorem request_answered {code : Nat} {tests : List (Bool × AnswerBody)} {refusal : Option AnswerBody}
    {body : AnswerBody} {effect : State → State} {s t : State} (h : s.TakesRequests)
    (htests : firstFailing tests = refusal) (heffect : refusal = none → (effect s).inform s = t) :
    s.request code tests body effect = answerWith code refusal body t s := by
  rw [request_taken _ _ _ _ s h, htests]
  exact answerWith_congr heffect

theorem exec_breakWork {s : State} (h : s.TakesRequests) :
    exec .breakWork s = .next (answerWith 3 (breakRefusal s) .accepted s.grantWork s) :=
  congrArg Host.Outcome.next <| request_answered h (firstFailing_break s) fun hnone =>
    grantWork_inform (role_of_breakRefusal_none hnone)

theorem exec_breakRenew {s : State} (h : s.TakesRequests) (token : Byte) :
    exec (.breakRenew token) s =
      .next (answerWith 4 (breakRenewRefusal token s) .accepted (s.keepWorking (decide (token.toNat = 1))) s) :=
  congrArg Host.Outcome.next <| request_answered h (firstFailing_breakRenew token s) fun hnone => by
    rw [keepWorking_inform, token_of_breakRenewRefusal_none hnone, Option.getD_some]

theorem exec_breakStop {s : State} (h : s.TakesRequests) :
    exec .breakStop s = .next (answerWith 5 (breakStopRefusal s) .accepted (workOver .stop s) s) :=
  congrArg Host.Outcome.next <| request_answered h (firstFailing_breakStop s) fun hnone => by
    obtain ⟨token, hworking⟩ := working_of_breakStopRefusal_none hnone
    rw [endBreakerWork_inform, endBreakerWork_eq hworking]

/-- Settles O16, request by request: the model's tests are the refusals of R96, R98 and R99, and no sequencer adds to
an accepted request's effect. -/
theorem breakerRequestsAnswered : Obligations.BreakerRequestsAnswered := by
  intro token s h
  refine ⟨?_, exec_breakRenew h token, exec_breakStop h⟩
  rw [exec_breakWork h, grantWork_eq]

end Sys2Proof.Machine
end

section
/-! DRAW, DRAW-RENEW, DRAW-STOP and GATE-RESET: the tests of R107, R116, R117 and R118 as the refusals' chains, the
sequencer that R108 and R109 leave at an accepted DRAW, and why the end of the event adds nothing to a request that
changes a gate's sequencer alone. -/

namespace Sys2Proof.Machine

/-! ## One gate's sequencer changed -/

theorem updateGate_eq_withGate (g : Gate) (f : GateSeq → GateSeq) (s : State) : s.updateGate g f = s.withGate g f :=
  rfl

theorem withGate_withGate (g : Gate) (f f' : GateSeq → GateSeq) (s : State) :
    (s.withGate g f).withGate g f' = s.withGate g (fun q => f' (f q)) := by
  cases g <;> rfl

/-- A gate's sequencer is neither column, reservation nor wet status: no sequencer is told anything. -/
theorem withGate_inform (g : Gate) (f : GateSeq → GateSeq) (s : State) : (s.withGate g f).inform s = s.withGate g f :=
  inform_same rfl rfl rfl

/-! ## The tests as refusals -/

theorem gateByte_iff (gate : Byte) : (gateOf gate).isSome = true ↔ ¬¬NamesGate gate :=
  (gateOf_isSome gate).trans Classical.not_not.symm

/-- The mode byte names a draw mode: HELD, or BATCH with a target (R107 test 2). -/
theorem drawModeOf_isSome (mode : Byte) (target : Option Word16) :
    (drawModeOf mode target).isSome = true ↔ mode.toNat = 1 ∨ (mode.toNat = 2 ∧ target ≠ none) := by
  unfold drawModeOf
  by_cases hheld : mode.toNat = 1
  · simp [hheld]
  · by_cases hbatch : mode.toNat = 2
    · simp [hbatch, Option.isSome_iff_ne_none]
    · simp [hheld, hbatch]

theorem drawBytes_iff (gate mode : Byte) (target : Option Word16) :
    ((gateOf gate).isSome && (drawModeOf mode target).isSome) = true ↔
      ¬¬(NamesGate gate ∧ (mode.toNat = 1 ∨ (mode.toNat = 2 ∧ target ≠ none))) := by
  rw [Classical.not_not, Bool.and_eq_true, gateOf_isSome, drawModeOf_isSome]

theorem renewBytes_iff (gate token : Byte) :
    ((gateOf gate).isSome && (tokenOf token).isSome) = true ↔ ¬¬(NamesGate gate ∧ token.toNat ≤ 1) := by
  rw [Classical.not_not, Bool.and_eq_true, gateOf_isSome, tokenOf_isSome]

/-- Test 9 of R107: no TIP peer is other than PRESENT. -/
theorem tipPeersPresent_iff (s : State) :
    s.tipPeersPresent = true ↔ ¬∃ r ∈ s.peers.records, r.role = some .tip ∧ r.presence ≠ .present := by
  simp only [State.tipPeersPresent, List.all_eq_true, Bool.or_eq_true, bne_iff_ne, beq_iff_eq, not_exists, not_and,
    Decidable.not_not, ne_eq, Decidable.imp_iff_not_or]

theorem bool_not_iff (b : Bool) : (!b) = true ↔ ¬b = true := by
  rw [Bool.not_eq_true', Bool.not_eq_true]

/-- Test 15 of R107: no wet rest runs, or the column is CLEAR. -/
theorem wetRestOver_iff (s : State) :
    (!s.watch.wetRest.running || s.watch.wet == .clear) = true ↔
      ¬(s.watch.wetRest.running = true ∧ s.watch.wet ≠ .clear) := by
  rw [Bool.or_eq_true, bool_not_iff, beq_iff_not_ne, Classical.not_and_iff_not_or_not]

theorem drawing_iff_not_not (q : GateSeq) : q.state.drawing = true ↔ ¬¬q.Drawing :=
  (drawing_iff q).trans Classical.not_not.symm

theorem heldDraw_iff (q : GateSeq) : q.heldDraw = true ↔ ¬¬(q.Drawing ∧ q.mode = some .held) := by
  rw [Classical.not_not, GateSeq.heldDraw, Bool.and_eq_true, drawing_iff, beq_iff_eq]

theorem resettable_iff (state : GateState) :
    state.resettable = true ↔ ¬(state = .warning ∨ state = .opening ∨ state = .closing) := by
  cases state <;> simp [GateState.resettable]

theorem provenClosed_iff_not_not (g : Gate) (s : State) : s.provenClosed g = true ↔ ¬¬s.ProvenClosed g :=
  (provenClosed_iff g s).trans Classical.not_not.symm

theorem firstFailing_draw (gate mode : Byte) (target : Option Word16) (s : State) :
    firstFailing (s.drawTests gate mode target) = drawRefusal gate mode target s := by
  rw [State.drawTests, gateOf_getD]
  exact
    firstFailing_step (beq_iff_not_ne s.straps.role .draw) <|
    firstFailing_step (drawBytes_iff gate mode target) <|
    firstFailing_step (beq_iff_not_ne s.mode .ready) <|
    firstFailing_step (noHold_iff .halt s) <|
    firstFailing_step (noHold_iff .entry s) <|
    firstFailing_step (noHold_iff .hangup s) <|
    firstFailing_step (seeded_iff s) <|
    firstFailing_step (beq_iff_not_ne s.line.state .active) <|
    firstFailing_step (tipPeersPresent_iff s) <|
    firstFailing_step (bool_not_iff (s.gate (gateNamed gate)).state.isFault) <|
    firstFailing_step (beq_iff_not_ne (s.gate (gateNamed gate)).state .closed) <|
    firstFailing_step Bool.ne_false_iff.symm <|
    firstFailing_step (decide_eq_true_iff.trans Nat.not_le.symm) <|
    firstFailing_step bne_iff_ne <|
    firstFailing_step (wetRestOver_iff s) firstFailing_nil

/-- Test 4 of R118 compares a token that test 2 has found to be one. -/
theorem firstFailing_drawRenew (gate token : Byte) (s : State) :
    firstFailing (s.drawRenewTests gate token) = drawRenewRefusal gate token s := by
  rw [State.drawRenewTests, gateOf_getD]
  refine
    firstFailing_step (beq_iff_not_ne s.straps.role .draw) <|
    firstFailing_step_passed (renewBytes_iff gate token) fun hbytes => ?_
  have htoken : tokenOf token = some (decide (token.toNat = 1)) := tokenOf_eq (Classical.not_not.mp hbytes).2
  rw [htoken]
  exact
    firstFailing_step (heldDraw_iff (s.gate (gateNamed gate))) <|
    firstFailing_step (bne_iff_ne.trans ne_comm) firstFailing_nil

theorem firstFailing_drawStop (gate : Byte) (s : State) :
    firstFailing (s.drawStopTests gate) = drawStopRefusal gate s := by
  rw [State.drawStopTests, gateOf_getD]
  exact
    firstFailing_step (beq_iff_not_ne s.straps.role .draw) <|
    firstFailing_step (gateByte_iff gate) <|
    firstFailing_step (drawing_iff_not_not (s.gate (gateNamed gate))) firstFailing_nil

theorem firstFailing_gateReset (gate : Byte) (s : State) :
    firstFailing (s.gateResetTests gate) = gateResetRefusal gate s := by
  rw [State.gateResetTests, gateOf_getD]
  exact
    firstFailing_step (beq_iff_not_ne s.straps.role .draw) <|
    firstFailing_step (gateByte_iff gate) <|
    firstFailing_step (live_iff_not_not s) <|
    firstFailing_step (resettable_iff (s.gate (gateNamed gate)).state) <|
    firstFailing_step Bool.ne_false_iff.symm <|
    firstFailing_step (provenClosed_iff_not_not (gateNamed gate) s) firstFailing_nil

/-! ## What an accepted request has passed -/

/-- A request that nothing refuses has passed its first test and all that follow. -/
theorem passed_of_ite_none {P : Prop} [Decidable P] {a : AnswerBody} {x : Option AnswerBody}
    (h : (if P then some a else x) = none) : ¬P ∧ x = none := by
  split at h
  next => cases h
  next hp => exact ⟨hp, h⟩

theorem mode_of_drawRefusal_none {gate mode : Byte} {target : Option Word16} {s : State}
    (h : drawRefusal gate mode target s = none) : mode.toNat = 1 ∨ (mode.toNat = 2 ∧ target ≠ none) := by
  have ⟨_, hrest⟩ := passed_of_ite_none h
  have ⟨hbytes, _⟩ := passed_of_ite_none hrest
  exact (Classical.not_not.mp hbytes).2

theorem token_of_drawRenewRefusal_none {gate token : Byte} {s : State} (h : drawRenewRefusal gate token s = none) :
    tokenOf token = some (decide (token.toNat = 1)) := by
  have ⟨_, hrest⟩ := passed_of_ite_none h
  have ⟨hbytes, _⟩ := passed_of_ite_none hrest
  exact tokenOf_eq (Classical.not_not.mp hbytes).2

/-! ## An accepted DRAW (R108, R109) -/

/-- The mode that a DRAW is granted is the one it asks for, clamped to the range and to the wet draw limit. -/
theorem clampMode_drawModeOf {mode : Byte} {target : Option Word16} (s : State)
    (h : mode.toNat = 1 ∨ (mode.toNat = 2 ∧ target ≠ none)) :
    clampMode s.wetCapNow ((drawModeOf mode target).getD .held) = drawModeTaken mode target s := by
  obtain hheld | ⟨hbatch, htarget⟩ := h
  · simp [drawModeOf, drawModeTaken, clampMode, hheld]
  · obtain ⟨t, rfl⟩ := Option.ne_none_iff_exists'.mp htarget
    by_cases hwet : s.watch.wet = .restricted <;>
      simp [drawModeOf, drawModeTaken, clampMode, clampTo, State.wetCapNow, hbatch, hwet]

theorem drawModeTaken_held_iff (mode : Byte) (target : Option Word16) (s : State) :
    drawModeTaken mode target s = .held ↔ mode.toNat = 1 := by
  unfold drawModeTaken
  split <;> simp [*]

theorem wetCapNow_isSome (s : State) : s.wetCapNow.isSome = decide (s.watch.wet = .restricted) := by
  unfold State.wetCapNow
  split <;> simp [*]

/-- The sequencer in WARNING as R108 leaves it. -/
theorem grant_eq_drawBegun (mode : Byte) (target : Option Word16) (s : State) (q : GateSeq) :
    q.grant (drawModeTaken mode target s) s.wetCapNow s.renewalTimer (Timer.start (seconds s.prof.warningTime)) =
      drawBegun mode target s q := by
  simp only [GateSeq.grant, drawModeTaken_held_iff, wetCapNow_isSome]
  rfl

theorem beginOpening_eq (g : Gate) (s : State) : s.beginOpening g = s.withGate g (openingBegun s) := rfl

/-- A granted draw changes the gate's sequencer alone: to WARNING, or on to OPENING with a warning time of 0. -/
theorem grantDraw_eq (g : Gate) {mode : Byte} {target : Option Word16} (s : State)
    (h : mode.toNat = 1 ∨ (mode.toNat = 2 ∧ target ≠ none)) :
    s.grantDraw g ((drawModeOf mode target).getD .held) = s.withGate g (drawTaken mode target s) := by
  unfold State.grantDraw
  simp only [clampMode_drawModeOf s h, updateGate_eq_withGate, beginOpening_eq]
  by_cases hwarning : s.prof.warningTime = 0
  · rw [if_pos hwarning, withGate_withGate]
    refine congrArg (s.withGate g) (funext fun q => ?_)
    rw [drawTaken, if_pos hwarning, grant_eq_drawBegun]
    rfl
  · rw [if_neg hwarning]
    refine congrArg (s.withGate g) (funext fun q => ?_)
    rw [drawTaken, if_neg hwarning, grant_eq_drawBegun]

/-- Settles O18: the tests are R107's, and an accepted DRAW changes the gate's sequencer alone. -/
theorem drawAnswered : Obligations.DrawAnswered := by
  intro gate mode target s h
  refine congrArg Host.Outcome.next (request_answered h (firstFailing_draw gate mode target s) fun hnone => ?_)
  rw [gateOf_getD, grantDraw_eq _ s (mode_of_drawRefusal_none hnone), withGate_inform]

/-! ## The other requests, where the port takes them -/

theorem exec_drawRenew {s : State} (h : s.TakesRequests) (gate token : Byte) :
    exec (.drawRenew gate token) s =
      .next (answerWith 7 (drawRenewRefusal gate token s) .accepted
        (s.withGate (gateNamed gate) (fun q =>
          { q with token := some (decide (token.toNat = 1)), renewal := ⟨true, s.prof.renewalWindow⟩ })) s) :=
  congrArg Host.Outcome.next <| request_answered h (firstFailing_drawRenew gate token s) fun hnone => by
    rw [gateOf_getD, token_of_drawRenewRefusal_none hnone]
    exact withGate_inform _ _ s

theorem exec_gateReset {s : State} (h : s.TakesRequests) (gate : Byte) :
    exec (.gateReset gate) s =
      .next (answerWith 9 (gateResetRefusal gate s) .accepted
        (s.withGate (gateNamed gate) (fun q => { q with state := .closed })) s) :=
  congrArg Host.Outcome.next <| request_answered h (firstFailing_gateReset gate s) fun _ => by
    rw [gateOf_getD]
    exact withGate_inform _ _ s

theorem exec_drawStop {s : State} (h : s.TakesRequests) (gate : Byte) :
    exec (.drawStop gate) s =
      .next (answerWith 8 (drawStopRefusal gate s) .accepted ((s.endDraw .stop (gateNamed gate)).inform s) s) :=
  congrArg Host.Outcome.next <| request_answered h (firstFailing_drawStop gate s) fun _ => by
    rw [gateOf_getD]

/-- Settles O19, request by request: the model's tests are the refusals of R116, R117 and R118, and a renewal or a
reset changes the gate's sequencer alone. -/
theorem drawRequestsAnswered : Obligations.DrawRequestsAnswered :=
  ⟨fun gate token _ h => ⟨exec_drawRenew h gate token, exec_gateReset h gate⟩, fun gate _ h => exec_drawStop h gate⟩

end Sys2Proof.Machine
end

section
/-! EVENTS, EVENT-ACK, EVENT-ENABLE and the messages that are no request: a request whose effect stays in the port, one
that a single test refuses, and a message that never becomes a request (R171, R175). -/

namespace Sys2Proof.Machine

/-! ## The port changed alone -/

/-- The port is neither column, reservation nor wet status: no sequencer is told anything. -/
theorem setPort_inform (p : Port) (s : State) : (s.setPort p).inform s = s.setPort p := inform_same rfl rfl rfl

/-- A request without tests whose effect is a new port leaves that port with the answer in it, and nothing else. -/
theorem request_untested {code : Nat} {body : AnswerBody} {effect : State → State} {p : Port} {s : State}
    (h : s.TakesRequests) (heffect : effect s = s.setPort p) :
    s.request code [] body effect = { s with port := { p with answer := some ⟨code, body⟩ } } := by
  have hinform : (effect s).inform s = s.setPort p := by rw [heffect, setPort_inform]
  exact request_answered h firstFailing_nil fun _ => hinform

/-- A request with a test that cannot pass gets that test's answer, whatever it would have done. -/
theorem request_refused {s : State} (h : s.TakesRequests) (code : Nat) (refusal body : AnswerBody)
    (effect : State → State) : s.request code [(false, refusal)] body effect = s.giveAnswer code refusal :=
  request_taken _ _ _ _ s h

/-! ## The event summary's requests (R175) -/

theorem exec_events {s : State} (h : s.TakesRequests) :
    exec .events s = .next (s.giveAnswer 19 (.events s.port.pendingEvents s.port.enabledEvents)) :=
  congrArg Host.Outcome.next (request_untested h rfl)

theorem exec_eventAck {s : State} (h : s.TakesRequests) (kinds : Word16) :
    exec (.eventAck kinds) s =
      .next ((s.acknowledge kinds).giveAnswer 20 (.acceptedEvents (s.pendingAfterAck kinds))) :=
  congrArg Host.Outcome.next (request_untested h rfl)

theorem exec_eventEnable {s : State} (h : s.TakesRequests) (kinds : Word16) :
    exec (.eventEnable kinds) s = .next ((s.enable kinds).giveAnswer 21 .accepted) :=
  congrArg Host.Outcome.next (request_untested h rfl)

/-! ## Messages that are no request (R171) -/

theorem exec_malformedMessage {s : State} (h : s.port.restartPending = false) :
    exec .malformedMessage s =
      .next (s.setPort { s.port with malformed := bump16 s.port.malformed, answer := none }) :=
  congrArg Host.Outcome.next (if_neg (Bool.eq_false_iff.mp h))

/-- A code outside the request set meets no acceptance rule: the port alone refuses it. -/
theorem exec_unknownCode {s : State} (h : s.port.restartPending = false) (c : Byte) :
    exec (.unknownRequest (.code c)) s = .next (s.giveAnswer c.toNat (.refused .badRequest)) :=
  congrArg Host.Outcome.next (if_neg (Bool.eq_false_iff.mp h))

theorem exec_unknownReportKind {s : State} (h : s.TakesRequests) (k : Byte) :
    exec (.unknownRequest (.reportKind k)) s = .next (s.giveAnswer 17 (.refused .badRequest)) :=
  congrArg Host.Outcome.next (request_refused h codeReport _ _ _)

/-- Settles O53, message by message: the event requests have no tests and change the port alone, and what is no request
is counted or refused by the port itself. -/
theorem eventsAndMessagesAnswered : Obligations.EventsAndMessagesAnswered := by
  intro kinds c k s h
  have ⟨hpending, _⟩ := h
  exact ⟨exec_events h, exec_eventAck h kinds, exec_eventEnable h kinds, exec_malformedMessage hpending,
    exec_unknownCode hpending c, exec_unknownReportKind h k⟩

end Sys2Proof.Machine
end

section
/-! Facts of lists and conditionals that core Lean does not state in this form. -/

namespace Sys2Proof.Machine

/-- Conditionals on equivalent conditions, branch by branch. -/
theorem ite_of_iff {α : Sort _} {p q : Prop} [Decidable p] [Decidable q] {x y u v : α} (h : p ↔ q) (hx : x = u)
    (hy : y = v) : (if p then x else y) = if q then u else v :=
  ite_congr (propext h) (fun _ => hx) fun _ => hy

/-- The same, each branch under its condition. -/
theorem ite_of_iff_under {α : Sort _} {p q : Prop} [Decidable p] [Decidable q] {x y u v : α} (h : p ↔ q)
    (hx : q → x = u) (hy : ¬q → y = v) : (if p then x else y) = if q then u else v :=
  ite_congr (propext h) hx hy

theorem exists_append_singleton {α : Type _} {l : List α} (h : l ≠ []) : ∃ below top, l = below ++ [top] :=
  ⟨_, _, (List.dropLast_concat_getLast h).symm⟩

theorem nodup_one {α : Type _} (x : α) : [x].Nodup := List.pairwise_singleton _ x

end Sys2Proof.Machine
end

section
/-! The column as a list within a capacity: what a join, a draw, a re-anchor and a seed keep of its length, of its
segments' volumes and of its sum (R11, R17). -/

namespace Sys2Proof.Machine

/-- At most 32 segments of at least 1 dL each, none while UNSEEDED, and no more than the capacity (R11, R17). -/
def Column.Fits (capacity : Nat) (c : Column) : Prop :=
  c.segments.length ≤ 32 ∧ (∀ g ∈ c.segments, 1 ≤ g.volume) ∧ (c.seeded = false → c.segments = []) ∧
  totalVolume c.segments ≤ capacity

theorem columnKept_iff (s : State) : s.ColumnKept ↔ s.column.Fits s.prof.capacity := Iff.rfl

theorem Column.fits_of_empty {capacity : Nat} {c : Column} (h : c.segments = []) : c.Fits capacity := by
  simp [Column.Fits, h]

/-- Records beside the list and the model state do not matter. -/
theorem Column.Fits.congr {capacity : Nat} {c d : Column} (h : c.Fits capacity) (hs : d.segments = c.segments)
    (hm : d.seeded = c.seeded) : d.Fits capacity := by
  unfold Column.Fits at h ⊢
  rwa [hs, hm]

theorem totalVolume_append (l m : List Segment) : totalVolume (l ++ m) = totalVolume l + totalVolume m := by
  simp [totalVolume]

theorem totalVolume_reverse (l : List Segment) : totalVolume l.reverse = totalVolume l := by
  simp [totalVolume, List.sum_reverse]

/-! ## The segment list -/

theorem mergeBottom_volume (l : List Segment) : totalVolume (mergeBottom l) = totalVolume l := by
  unfold mergeBottom
  split
  · simp [mergeSegments, Nat.add_assoc]
  · rfl

theorem mergeBottom_length {l : List Segment} (h : 2 ≤ l.length) : (mergeBottom l).length + 1 = l.length := by
  match l, h with
  | _ :: _ :: _, _ => rfl

theorem mergeBottom_pos {l : List Segment} (h : ∀ g ∈ l, 1 ≤ g.volume) : ∀ g ∈ mergeBottom l, 1 ≤ g.volume := by
  match l, h with
  | [], _ => exact fun _ hg => nomatch hg
  | [_], h => exact h
  | lower :: upper :: rest, h =>
    intro g hg
    rcases List.mem_cons.mp hg with rfl | hg
    · exact Nat.le_add_right_of_le (h lower (by simp))
    · exact h g (by simp [hg])

theorem takeVolume_volume (l : List Segment) (v : Nat) : totalVolume (takeVolume l v) = totalVolume l - v := by
  induction l generalizing v with
  | nil => simp [takeVolume]
  | cons g gs ih =>
    unfold takeVolume
    split
    · simp only [totalVolume_cons]; omega
    · rw [ih, totalVolume_cons]; omega

theorem takeVolume_length (l : List Segment) (v : Nat) : (takeVolume l v).length ≤ l.length := by
  induction l generalizing v with
  | nil => exact Nat.le_refl _
  | cons g gs ih =>
    unfold takeVolume
    split
    · exact Nat.le_refl _
    · exact Nat.le_succ_of_le (ih _)

theorem takeVolume_pos {l : List Segment} (h : ∀ g ∈ l, 1 ≤ g.volume) (v : Nat) :
    ∀ g ∈ takeVolume l v, 1 ≤ g.volume := by
  induction l generalizing v with
  | nil => exact fun _ hg => nomatch hg
  | cons x xs ih =>
    rw [List.forall_mem_cons] at h
    unfold takeVolume
    split
    · rw [List.forall_mem_cons]
      exact ⟨by simp only; omega, h.2⟩
    · exact ih h.2 _

theorem takeTop_volume (l : List Segment) (v : Nat) : totalVolume (takeTop l v) = totalVolume l - v := by
  rw [takeTop, totalVolume_reverse, takeVolume_volume, totalVolume_reverse]

theorem takeTop_length (l : List Segment) (v : Nat) : (takeTop l v).length ≤ l.length := by
  simpa [takeTop] using takeVolume_length l.reverse v

theorem takeTop_pos {l : List Segment} (h : ∀ g ∈ l, 1 ≤ g.volume) (v : Nat) : ∀ g ∈ takeTop l v, 1 ≤ g.volume := by
  intro g hg
  exact takeVolume_pos (fun x hx => h x (List.mem_reverse.mp hx)) v g (List.mem_reverse.mp hg)

/-- A list that is not empty grows by its last segment. -/
theorem growTop_append (below : List Segment) (top : Segment) (v : Nat) :
    growTop (below ++ [top]) v = below ++ [{ top with volume := top.volume + v, estimated := true }] := by
  simp [growTop]

theorem growTop_volume {l : List Segment} (h : l ≠ []) (v : Nat) : totalVolume (growTop l v) = totalVolume l + v := by
  obtain ⟨below, top, rfl⟩ := exists_append_singleton h
  simp [growTop_append, totalVolume_append, Nat.add_assoc]

theorem growTop_length {l : List Segment} (h : l ≠ []) (v : Nat) : (growTop l v).length = l.length := by
  obtain ⟨below, top, rfl⟩ := exists_append_singleton h
  simp [growTop_append]

theorem growTop_pos {l : List Segment} (hne : l ≠ []) (h : ∀ g ∈ l, 1 ≤ g.volume) (v : Nat) :
    ∀ g ∈ growTop l v, 1 ≤ g.volume := by
  obtain ⟨below, top, rfl⟩ := exists_append_singleton hne
  rw [growTop_append]
  intro g hg
  rcases List.mem_append.mp hg with hg | hg
  · exact h g (by simp [hg])
  · rw [List.mem_singleton.mp hg]
    exact Nat.le_add_right_of_le (h top (by simp))

theorem listOf_volume (g : Segment) : totalVolume (listOf g) = g.volume := by
  unfold listOf
  split <;> simp_all

theorem listOf_length (g : Segment) : (listOf g).length ≤ 1 := by
  unfold listOf
  split <;> simp

theorem listOf_pos (g : Segment) : ∀ x ∈ listOf g, 1 ≤ x.volume := by
  unfold listOf
  split
  · exact fun _ hx => nomatch hx
  · intro x hx
    rw [List.mem_singleton.mp hx]
    omega

/-! ## Joins -/

theorem join_volume (g : Segment) (c : Column) :
    totalVolume (c.join g).segments = totalVolume c.segments + g.volume := by
  unfold Column.join
  split
  · omega
  · split <;> simp [totalVolume_append, mergeBottom_volume]

@[simp] theorem join_seeded (g : Segment) (c : Column) : (c.join g).seeded = c.seeded := by
  unfold Column.join
  split
  · rfl
  · split <;> rfl

theorem join_fits {capacity : Nat} {c : Column} {g : Segment} (h : c.Fits capacity) (hs : c.seeded = true)
    (hg : totalVolume c.segments + g.volume ≤ capacity) : (c.join g).Fits capacity := by
  obtain ⟨hlen, hpos, _, hvol⟩ := h
  refine ⟨?_, ?_, by rw [join_seeded, hs]; exact fun hf => (nomatch hf), by rw [join_volume]; exact hg⟩ <;>
    unfold Column.join <;> split
  · exact hlen
  · split
    next hfull =>
      show (c.segments ++ [g]).length ≤ 32
      rw [List.length_append, List.length_singleton]
      exact hfull
    next hfull =>
      simp only [Config.maxSegments] at hfull
      have := mergeBottom_length (l := c.segments) (by omega)
      simp only [List.length_append, List.length_singleton]
      omega
  · exact hpos
  · split
    · simp only [List.forall_mem_append, List.forall_mem_singleton]
      exact ⟨hpos, by omega⟩
    · simp only [List.forall_mem_append, List.forall_mem_singleton]
      exact ⟨mergeBottom_pos hpos, by omega⟩

theorem layer_fits {capacity : Nat} {c : Column} (g : Segment) (h : c.Fits capacity) (hs : c.seeded = true) :
    (c.layer capacity g).1.Fits capacity := by
  refine join_fits h hs ?_
  have := h.2.2.2
  simp only [splitTip]
  omega

theorem layers_fits {capacity : Nat} (l : List Segment) {c : Column} (h : c.Fits capacity) (hs : c.seeded = true) :
    (Column.layers capacity l c).1.Fits capacity := by
  induction l generalizing c with
  | nil => exact h
  | cons g gs ih => exact ih (layer_fits g h hs) (by simpa [Column.layer] using hs)

theorem afterLayers_fits {capacity : Nat} (l : List Segment) {c : Column} (h : c.Fits capacity)
    (hs : c.seeded = true) : (c.afterLayers capacity l).Fits capacity := by
  unfold Column.afterLayers
  dsimp only
  split
  · exact layers_fits l h hs
  · exact (layers_fits l h hs).congr rfl rfl

/-! ## Draws, re-anchors and seeds -/

theorem afterDraw_segments (density mass : Nat) (c : Column) :
    (c.afterDraw density mass).segments = takeVolume c.segments (drawnVolume density c.remainder mass).1 := by
  unfold Column.afterDraw
  dsimp only
  split <;> rfl

@[simp] theorem afterDraw_seeded (density mass : Nat) (c : Column) : (c.afterDraw density mass).seeded = c.seeded := by
  unfold Column.afterDraw
  dsimp only
  split <;> rfl

theorem afterDraw_fits {capacity : Nat} (density mass : Nat) {c : Column} (h : c.Fits capacity) :
    (c.afterDraw density mass).Fits capacity := by
  obtain ⟨hlen, hpos, hempty, hvol⟩ := h
  unfold Column.Fits
  rw [afterDraw_segments, afterDraw_seeded, takeVolume_volume]
  refine ⟨Nat.le_trans (takeVolume_length _ _) hlen, takeVolume_pos hpos _, fun hf => ?_,
    Nat.le_trans (Nat.sub_le _ _) hvol⟩
  rw [hempty hf]; rfl

theorem reanchored_volume (target : Nat) (l : List Segment) : totalVolume (reanchored target l) = target := by
  unfold reanchored
  split
  · rw [takeTop_volume]; omega
  · split
    · split
      · exact listOf_volume _
      · rw [growTop_volume (by simp)]; omega
    · omega

theorem reanchored_pos {target : Nat} {l : List Segment} (h : ∀ g ∈ l, 1 ≤ g.volume) :
    ∀ g ∈ reanchored target l, 1 ≤ g.volume := by
  unfold reanchored
  split
  · exact takeTop_pos h _
  · split
    · split
      · exact listOf_pos _
      · exact growTop_pos (by simp) h _
    · exact h

theorem reanchored_length (target : Nat) (l : List Segment) : (reanchored target l).length ≤ max 1 l.length := by
  unfold reanchored
  split
  · exact Nat.le_trans (takeTop_length _ _) (Nat.le_max_right _ _)
  · split
    · split
      · exact Nat.le_trans (listOf_length _) (Nat.le_max_left _ _)
      · rw [growTop_length (by simp)]; exact Nat.le_max_right _ _
    · exact Nat.le_max_right _ _

theorem volumeBelow_le (bands : List Band) (x : Nat) : volumeBelow bands x ≤ passCapacity bands :=
  volumeUnder_le bands _

theorem reanchored_fits {capacity target : Nat} {c : Column} (h : c.Fits capacity) (hs : c.seeded = true)
    (ht : target ≤ capacity) : ({ c with segments := reanchored target c.segments } : Column).Fits capacity := by
  obtain ⟨hlen, hpos, _, _⟩ := h
  refine ⟨Nat.le_trans (reanchored_length _ _) (by omega), reanchored_pos hpos, ?_, ?_⟩
  · intro hf
    rw [show c.seeded = false from hf] at hs
    cases hs
  · rw [reanchored_volume]; exact ht

/-- A seed of at most two loose layers within the capacity. -/
theorem seed_fits {capacity : Nat} (c : Column) (lower upper : Segment) (h : lower.volume + upper.volume ≤ capacity) :
    ({ c with seeded := true, segments := listOf lower ++ listOf upper } : Column).Fits capacity := by
  refine ⟨?_, ?_, fun hf => (nomatch hf), ?_⟩
  · have hlower := listOf_length lower
    have hupper := listOf_length upper
    simp only [List.length_append]
    omega
  · simp only [List.forall_mem_append]
    exact ⟨listOf_pos lower, listOf_pos upper⟩
  · simp only [totalVolume_append, listOf_volume]
    exact h

end Sys2Proof.Machine
end

section
/-! The reservation list and the transmit queue as lists: what each operation keeps of their limits (R89, R132 to
R135), and which frames they hold. -/

namespace Sys2Proof.Machine

/-! ## The reservation list -/

/-- At most one entry a station, each in range (R89). -/
def ReservationsFit (l : List Reservation) : Prop :=
  (l.map Reservation.station).Nodup ∧ ∀ r ∈ l, 1 ≤ r.cls ∧ r.cls ≤ 6 ∧ 1000 ≤ r.volume ∧ r.volume ≤ 600000

theorem reservationsKept_iff (s : State) : s.ReservationsKept ↔ ReservationsFit s.reservations := Iff.rfl

theorem ReservationsFit.sublist {l m : List Reservation} (h : ReservationsFit l) (hm : m.Sublist l) :
    ReservationsFit m :=
  ⟨h.1.sublist (hm.map _), fun r hr => h.2 r (hm.subset hr)⟩

theorem ReservationsFit.append {l : List Reservation} {r : Reservation} (h : ReservationsFit l)
    (hr : loadInRange r.cls r.volume = true) (hnew : ∀ x ∈ l, x.station ≠ r.station) : ReservationsFit (l ++ [r]) := by
  refine ⟨?_, ?_⟩
  · rw [List.map_append, List.nodup_append]
    refine ⟨h.1, nodup_one _, ?_⟩
    simp only [List.map_cons, List.map_nil, List.mem_singleton, List.mem_map]
    rintro _ ⟨x, hx, rfl⟩ _ rfl
    exact hnew x hx
  · rw [List.forall_mem_append, List.forall_mem_singleton]
    rw [loadInRange_iff] at hr
    exact ⟨h.2, hr⟩

theorem ReservationsFit.restate {l : List Reservation} {cls volume : Nat} (h : ReservationsFit l) (station : Nat)
    (hr : loadInRange cls volume = true) :
    ReservationsFit (l.map (fun r => if r.station = station then r.restate cls volume else r)) := by
  rw [loadInRange_iff] at hr
  refine ⟨?_, ?_⟩
  · rw [List.map_map]
    have hsame : l.map (Reservation.station ∘ fun r => if r.station = station then r.restate cls volume else r) =
        l.map Reservation.station := by
      refine List.map_congr_left fun r _ => ?_
      rw [Function.comp_apply]
      split <;> rfl
    rw [hsame]
    exact h.1
  · simp only [List.forall_mem_map]
    intro r hmem
    split
    · exact hr
    · exact h.2 r hmem

/-! ## Elements changed, found and erased -/

theorem modifyFirst_length {α : Type} (p : α → Bool) (f : α → α) (l : List α) :
    (modifyFirst p f l).length = l.length := by
  induction l with
  | nil => rfl
  | cons x xs ih =>
    unfold modifyFirst
    split <;> simp [ih]

/-- A change that a test does not see leaves the count of that test. -/
theorem modifyFirst_countP {α : Type} {p r : α → Bool} {f : α → α} {l : List α}
    (h : ∀ x ∈ l, p x = true → r (f x) = r x) : (modifyFirst p f l).countP r = l.countP r := by
  induction l with
  | nil => rfl
  | cons x xs ih =>
    rw [List.forall_mem_cons] at h
    unfold modifyFirst
    split
    next hp => simp [List.countP_cons, h.1 hp]
    next => simp [List.countP_cons, ih h.2]

theorem modifyFirst_countP_le {α : Type} (p r : α → Bool) (f : α → α) (l : List α) :
    (modifyFirst p f l).countP r ≤ l.countP r + 1 := by
  induction l with
  | nil => exact Nat.zero_le _
  | cons x xs ih =>
    unfold modifyFirst
    split
    · simp only [List.countP_cons]; split <;> omega
    · simp only [List.countP_cons]; omega

/-- Where a list is changed an element stands in it, or comes of one that the test picks. -/
theorem mem_modifyFirst {α : Type} {p : α → Bool} {f : α → α} {l : List α} {y : α} (h : y ∈ modifyFirst p f l) :
    y ∈ l ∨ ∃ x ∈ l, p x = true ∧ y = f x := by
  induction l with
  | nil => exact nomatch h
  | cons x xs ih =>
    unfold modifyFirst at h
    split at h
    next hp =>
      rcases List.mem_cons.mp h with rfl | h
      · exact .inr ⟨x, by simp, hp, rfl⟩
      · exact .inl (by simp [h])
    next =>
      rcases List.mem_cons.mp h with rfl | h
      · exact .inl (by simp)
      · rcases ih h with h | ⟨z, hz, hp, rfl⟩
        · exact .inl (by simp [h])
        · exact .inr ⟨z, by simp [hz], hp, rfl⟩

theorem eraseLast_sublist {α : Type} (p : α → Bool) (l : List α) : (eraseLast p l).Sublist l := by
  have h := (List.eraseP_sublist (p := p) (l := l.reverse)).reverse
  rwa [List.reverse_reverse] at h

theorem findLast_some {α : Type} {p : α → Bool} {l : List α} {x : α} (h : findLast p l = some x) :
    x ∈ l ∧ p x = true :=
  ⟨List.mem_reverse.mp (List.mem_of_find?_eq_some h), List.find?_some h⟩

theorem eraseLast_length {α : Type} {p : α → Bool} {l : List α} {x : α} (h : findLast p l = some x) :
    (eraseLast p l).length + 1 = l.length := by
  obtain ⟨hmem, hp⟩ := findLast_some h
  have hlen := List.length_eraseP_of_mem (List.mem_reverse.mpr hmem) hp
  have hpos := List.length_pos_of_mem hmem
  rw [List.length_reverse] at hlen
  simp only [eraseLast, List.length_reverse]
  omega

/-! ## The transmit queue -/

/-- At most eight frames, at most one on the wire and at most one of each coalesced kind (R132 to R134). -/
def QueueFits (q : List QueuedFrame) : Prop :=
  q.length ≤ 8 ∧ q.countP (·.onWire) ≤ 1 ∧ ∀ k : FrameKind, k.coalesces = true → q.countP (QueuedFrame.hasKind k) ≤ 1

theorem queueFits_iff (q : List QueuedFrame) : QueueFits q ↔
    q.length ≤ 8 ∧ (q.filter (·.onWire)).length ≤ 1 ∧ (q.filter (QueuedFrame.hasKind .state)).length ≤ 1 ∧
    (q.filter (QueuedFrame.hasKind .drawn)).length ≤ 1 ∧ (q.filter (QueuedFrame.hasKind .surface)).length ≤ 1 := by
  simp only [QueueFits, List.countP_eq_length_filter]
  refine and_congr_right fun _ => and_congr_right fun _ => ⟨fun h => ⟨h _ rfl, h _ rfl, h _ rfl⟩, ?_⟩
  rintro ⟨hstate, hdrawn, hsurface⟩ k hk
  cases k with
  | state => exact hstate
  | drawn => exact hdrawn
  | surface => exact hsurface
  | holdSet | holdLift | offer | withdraw | tipped => cases hk

theorem QueueFits.sublist {q r : List QueuedFrame} (h : QueueFits q) (hr : r.Sublist q) : QueueFits r :=
  ⟨Nat.le_trans hr.length_le h.1, Nat.le_trans hr.countP_le h.2.1, fun k hk => Nat.le_trans hr.countP_le (h.2.2 k hk)⟩

/-- A frame changed in its place with kind and place on the wire standing. -/
theorem QueueFits.modifyFirst {q : List QueuedFrame} (h : QueueFits q) (p : QueuedFrame → Bool)
    {f : QueuedFrame → QueuedFrame} (hkind : ∀ x ∈ q, p x = true → (f x).frame.kind = x.frame.kind)
    (hwire : ∀ x ∈ q, p x = true → (f x).onWire = x.onWire) : QueueFits (modifyFirst p f q) := by
  refine ⟨by rw [modifyFirst_length]; exact h.1, ?_, fun k hk => ?_⟩
  · rw [modifyFirst_countP hwire]; exact h.2.1
  · rw [modifyFirst_countP fun x hx hp => by simp [QueuedFrame.hasKind, hkind x hx hp]]; exact h.2.2 k hk

/-- Frames changed with the kind standing, none newly on the wire. -/
theorem QueueFits.map {q : List QueuedFrame} (h : QueueFits q) {f : QueuedFrame → QueuedFrame}
    (hkind : ∀ x, (f x).frame.kind = x.frame.kind) (hwire : ∀ x, (f x).onWire = true → x.onWire = true) :
    QueueFits (q.map f) := by
  refine ⟨by rw [List.length_map]; exact h.1, ?_, fun k hk => ?_⟩
  · rw [List.countP_map]
    exact Nat.le_trans (List.countP_mono_left fun x _ hx => hwire x hx) h.2.1
  · rw [List.countP_map]
    refine Nat.le_trans (List.countP_mono_left fun x _ hx => ?_) (h.2.2 k hk)
    simpa [QueuedFrame.hasKind, hkind] using hx

theorem QueueFits.append {q : List QueuedFrame} (h : QueueFits q) (f : Frame) (hlen : q.length < 8)
    (hkind : f.kind.coalesces = true → ∀ x ∈ q, x.frame.kind ≠ f.kind) : QueueFits (q ++ [QueuedFrame.fresh f]) := by
  refine ⟨by rw [List.length_append, List.length_singleton]; exact hlen, by simpa [QueuedFrame.fresh] using h.2.1, fun k hk => ?_⟩
  rw [List.countP_append, List.countP_singleton]
  by_cases hf : f.kind = k
  · subst hf
    have hzero : q.countP (QueuedFrame.hasKind f.kind) = 0 := by
      rw [List.countP_eq_zero]
      intro x hx
      simpa [QueuedFrame.hasKind] using hkind hk x hx
    rw [hzero]
    split <;> omega
  · simpa [QueuedFrame.hasKind, QueuedFrame.fresh, hf] using h.2.2 k hk

theorem join_queueFits {l : Line} (h : QueueFits l.queue) (f : Frame)
    (hkind : f.kind.coalesces = true → ∀ x ∈ l.queue, x.frame.kind ≠ f.kind) : QueueFits (l.join f).1.queue := by
  unfold Line.join
  split
  next hlen => exact h.append f hlen hkind
  next =>
    split
    next q hq =>
      refine (h.sublist (eraseLast_sublist _ _)).append f ?_
        fun hc x hx => hkind hc x ((eraseLast_sublist _ _).subset hx)
      have := eraseLast_length hq
      have := h.1
      omega
    next => exact h

theorem offer_queueFits {l : Line} (h : QueueFits l.queue) (f : Frame) : QueueFits (l.offer f).1.queue := by
  unfold Line.offer
  split
  next q hq =>
    split
    · exact h
    · refine h.modifyFirst _ (fun x _ hx => ?_) (fun _ _ _ => rfl)
      exact (eq_of_beq hx).symm
  next hq =>
    refine join_queueFits h f fun hc x hx => ?_
    rw [if_pos hc, List.find?_eq_none] at hq
    simpa [QueuedFrame.hasKind] using hq x hx

/-! ## Frames that are not of the tip sequencer -/

/-- No OFFER, WITHDRAW or TIPPED. -/
def FrameKind.Untipped (k : FrameKind) : Prop := k ≠ .offer ∧ k ≠ .withdraw ∧ k ≠ .tipped

/-- The queue and the frames that wait hold no frame of the tip sequencer. -/
def Line.Untipped (l : Line) : Prop := (∀ q ∈ l.queue, q.frame.kind.Untipped) ∧ ∀ f ∈ l.waiting, f.kind.Untipped

theorem noTipTraffic_iff (s : State) : s.NoTipTraffic ↔ s.tip.stage = .idle ∧ s.line.Untipped := Iff.rfl

theorem join_untipped {l : Line} (h : l.Untipped) {f : Frame} (hf : f.kind.Untipped) :
    (l.join f).1.Untipped ∧ ∀ x, (l.join f).2 = some x → x.kind.Untipped := by
  unfold Line.join
  split
  next =>
    refine ⟨⟨?_, h.2⟩, fun x hx => nomatch hx⟩
    rw [List.forall_mem_append, List.forall_mem_singleton]
    exact ⟨h.1, hf⟩
  next =>
    split
    next q hq =>
      refine ⟨⟨?_, h.2⟩, ?_⟩
      · rw [List.forall_mem_append, List.forall_mem_singleton]
        exact ⟨fun x hx => h.1 x ((eraseLast_sublist _ _).subset hx), hf⟩
      · rintro x hx
        cases hx
        exact h.1 q (findLast_some hq).1
    next => exact ⟨h, fun x hx => by cases hx; exact hf⟩

theorem offer_untipped {l : Line} (h : l.Untipped) {f : Frame} (hf : f.kind.Untipped) :
    (l.offer f).1.Untipped ∧ ∀ x, (l.offer f).2 = some x → x.kind.Untipped := by
  unfold Line.offer
  split
  next q hq =>
    split
    · refine ⟨⟨h.1, ?_⟩, fun x hx => nomatch hx⟩
      rw [List.forall_mem_append, List.forall_mem_singleton]
      exact ⟨fun x hx => h.2 x (List.mem_filter.mp hx).1, hf⟩
    · refine ⟨⟨fun x hx => ?_, h.2⟩, fun x hx => nomatch hx⟩
      rcases mem_modifyFirst hx with hx | ⟨y, _, _, rfl⟩
      · exact h.1 x hx
      · exact hf
  next => exact join_untipped h hf

end Sys2Proof.Machine
end

section
/-! What the operations of the blocks keep, said once for each operation. `Sound` holds of every one of them; `Calm`
and `Quiet` hold of those that touch neither the hold list nor the breaker and begin no tip and no draw. -/

namespace Sys2Proof.Machine

/-- What every operation keeps: the commands that wait, straps and profile, and the limits of every list. -/
structure Sound (s t : State) : Prop where
  pending      : t.pending = s.pending
  straps       : t.straps = s.straps
  profile      : t.profile = s.profile
  awake        : s.mode ≠ .starting → t.mode ≠ .starting
  cause        : s.restartCauses.restart = true → t.restartCauses.restart = true
  buffers      : s.BuffersKept → t.BuffersKept
  answer       : s.AnswerFits → t.AnswerFits
  column       : s.ColumnKept → t.ColumnKept
  reservations : s.ReservationsKept → t.ReservationsKept
  queue        : QueueFits s.line.queue → QueueFits t.line.queue

/-- What an operation keeps that touches no hold and no breaker state and begins neither a tip nor a draw. -/
structure Calm (s t : State) : Prop extends Sound s t where
  holds   : t.holds = s.holds
  breaker : t.breaker.state = s.breaker.state
  tip     : t.TipOpen → s.TipOpen
  gates   : ∀ g, (t.gate g).state.drawing = true → (s.gate g).state.drawing = true

/-- The same, and at a DRAW station it brings no frame and no state of the tip sequencer. -/
structure Quiet (s t : State) : Prop extends Calm s t where
  traffic : s.straps.role = .draw → s.NoTipTraffic → t.NoTipTraffic

theorem Sound.refl (s : State) : Sound s s := ⟨rfl, rfl, rfl, id, id, id, id, id, id, id⟩
theorem Calm.refl (s : State) : Calm s s := ⟨.refl s, rfl, rfl, id, fun _ => id⟩
theorem Quiet.refl (s : State) : Quiet s s := ⟨.refl s, fun _ => id⟩

theorem Sound.trans {s t u : State} (h : Sound s t) (k : Sound t u) : Sound s u :=
  ⟨k.pending.trans h.pending, k.straps.trans h.straps, k.profile.trans h.profile, k.awake ∘ h.awake,
    k.cause ∘ h.cause, k.buffers ∘ h.buffers, k.answer ∘ h.answer, k.column ∘ h.column,
    k.reservations ∘ h.reservations, k.queue ∘ h.queue⟩

theorem Calm.trans {s t u : State} (h : Calm s t) (k : Calm t u) : Calm s u :=
  ⟨h.toSound.trans k.toSound, k.holds.trans h.holds, k.breaker.trans h.breaker, h.tip ∘ k.tip,
    fun g => h.gates g ∘ k.gates g⟩

theorem Quiet.trans {s t u : State} (h : Quiet s t) (k : Quiet t u) : Quiet s u :=
  ⟨h.toCalm.trans k.toCalm, fun hr => k.traffic (h.straps ▸ hr) ∘ h.traffic hr⟩

/-- With a tip in hand there is no DRAW station's empty tip traffic to keep. -/
theorem Calm.quiet_of_stage {s t : State} (h : Calm s t) (hs : s.tip.stage ≠ .idle) : Quiet s t :=
  ⟨h, fun _ hn => absurd hn.1 hs⟩

theorem Calm.quiet_of_role {s t : State} (h : Calm s t) (hr : s.straps.role = .tip) : Quiet s t :=
  ⟨h, fun hd => by rw [hr] at hd; cases hd⟩

theorem Quiet.foldl {α : Type} {f : State → α → State} (h : ∀ s x, Quiet s (f s x)) (l : List α) (s : State) :
    Quiet s (l.foldl f s) := by
  induction l generalizing s with
  | nil => exact .refl s
  | cons x xs ih => exact (h s x).trans (ih _)

theorem Calm.foldl {α : Type} {f : State → α → State} (h : ∀ s x, Calm s (f s x)) (l : List α) (s : State) :
    Calm s (l.foldl f s) := by
  induction l generalizing s with
  | nil => exact .refl s
  | cons x xs ih => exact (h s x).trans (ih _)

theorem Sound.own {s t : State} (h : Sound s t) : t.own = s.own := by simp only [State.own, h.straps]
theorem Sound.prof {s t : State} (h : Sound s t) : t.prof = s.prof := by simp only [State.prof, h.profile]
theorem Sound.role {s t : State} (h : Sound s t) : t.straps.role = s.straps.role := by rw [h.straps]

/-! ## Updates of the blocks -/

theorem mark_quiet (k : EventKind) (s : State) : Quiet s (s.mark k) :=
  ⟨⟨⟨rfl, rfl, rfl, id, id, id, id, id, id, id⟩, rfl, rfl, id, fun _ => id⟩, fun _ => id⟩
theorem setWatch_quiet (w : Watch) (s : State) : Quiet s (s.setWatch w) :=
  ⟨⟨⟨rfl, rfl, rfl, id, id, id, id, id, id, id⟩, rfl, rfl, id, fun _ => id⟩, fun _ => id⟩
theorem setDrawn_quiet (d : DrawTotals) (s : State) : Quiet s (s.setDrawn d) :=
  ⟨⟨⟨rfl, rfl, rfl, id, id, id, id, id, id, id⟩, rfl, rfl, id, fun _ => id⟩, fun _ => id⟩
theorem setField_quiet (f : Field) (s : State) : Quiet s (s.setField f) :=
  ⟨⟨⟨rfl, rfl, rfl, id, id, id, id, id, id, id⟩, rfl, rfl, id, fun _ => id⟩, fun _ => id⟩
theorem setPeers_quiet (p : PeerTable) (s : State) : Quiet s (s.setPeers p) :=
  ⟨⟨⟨rfl, rfl, rfl, id, id, id, id, id, id, id⟩, rfl, rfl, id, fun _ => id⟩, fun _ => id⟩
theorem setOpenReads_quiet (n : Nat) (s : State) : Quiet s (s.setOpenReads n) :=
  ⟨⟨⟨rfl, rfl, rfl, id, id, id, id, id, id, id⟩, rfl, rfl, id, fun _ => id⟩, fun _ => id⟩

theorem setBreaker_sound (b : Breaker) (s : State) : Sound s (s.setBreaker b) :=
  ⟨rfl, rfl, rfl, id, id, id, id, id, id, id⟩
theorem setHolds_sound (l : List Hold) (s : State) : Sound s (s.setHolds l) :=
  ⟨rfl, rfl, rfl, id, id, id, id, id, id, id⟩

theorem setBreaker_quiet {b : Breaker} {s : State} (h : b.state = s.breaker.state) : Quiet s (s.setBreaker b) :=
  ⟨⟨setBreaker_sound b s, rfl, h, id, fun _ => id⟩, fun _ => id⟩

theorem setTip_calm {x : Tip} {s : State} (h : x.stage.isOpen = true → s.TipOpen) : Calm s (s.setTip x) :=
  ⟨⟨rfl, rfl, rfl, id, id, id, id, id, id, id⟩, rfl, rfl, h, fun _ => id⟩

/-- A tip that ends. -/
theorem setTip_idle_quiet {x : Tip} (s : State) (h : x.stage = .idle) : Quiet s (s.setTip x) :=
  ⟨setTip_calm (by rw [h]; exact fun hf => nomatch hf), fun _ hn => ⟨h, hn.2⟩⟩

/-- A tip that goes on. -/
theorem setTip_quiet {x : Tip} {s : State} (h : x.stage.isOpen = true → s.TipOpen) (hs : s.tip.stage ≠ .idle) :
    Quiet s (s.setTip x) := (setTip_calm h).quiet_of_stage hs

theorem setColumnRecord_quiet {c : Column} {s : State} (h : s.ColumnKept → c.Fits s.prof.capacity) :
    Quiet s (s.setColumnRecord c) :=
  ⟨⟨⟨rfl, rfl, rfl, id, id, id, id, h, id, id⟩, rfl, rfl, id, fun _ => id⟩, fun _ => id⟩

theorem setReservations_quiet {l : List Reservation} {s : State} (h : s.ReservationsKept → ReservationsFit l) :
    Quiet s (s.setReservations l) :=
  ⟨⟨⟨rfl, rfl, rfl, id, id, id, id, id, h, id⟩, rfl, rfl, id, fun _ => id⟩, fun _ => id⟩

theorem setLine_calm {l : Line} {s : State} (h : QueueFits s.line.queue → QueueFits l.queue) : Calm s (s.setLine l) :=
  ⟨⟨rfl, rfl, rfl, id, id, id, id, id, id, h⟩, rfl, rfl, id, fun _ => id⟩

theorem setLine_quiet {l : Line} {s : State} (h : QueueFits s.line.queue → QueueFits l.queue)
    (hn : s.line.Untipped → l.Untipped) : Quiet s (s.setLine l) :=
  ⟨setLine_calm h, fun _ ht => ⟨ht.1, hn ht.2⟩⟩

/-- A line that loses frames, or takes none. -/
theorem setLine_quiet_of_sublist {l : Line} {s : State} (h : l.queue.Sublist s.line.queue)
    (hw : l.waiting ⊆ s.line.waiting) : Quiet s (s.setLine l) :=
  setLine_quiet (fun hq => hq.sublist h) fun hu => ⟨fun q hq => hu.1 q (h.subset hq), fun f hf => hu.2 f (hw hf)⟩

theorem setGates_quiet {x : PerGate GateSeq} {s : State}
    (h : ∀ g, (x.get g).state.drawing = true → (s.gate g).state.drawing = true) : Quiet s (s.setGates x) :=
  ⟨⟨⟨rfl, rfl, rfl, id, id, id, id, id, id, id⟩, rfl, rfl, id, h⟩, fun _ => id⟩

theorem updateGate_quiet_at {f : GateSeq → GateSeq} {g : Gate} {s : State}
    (h : (f (s.gate g)).state.drawing = true → (s.gate g).state.drawing = true) : Quiet s (s.updateGate g f) := by
  refine setGates_quiet fun k => ?_
  by_cases hk : k = g
  · subst hk; rw [PerGate.get_modify_same]; exact h
  · rw [PerGate.get_modify_other hk]; exact id

theorem updateGate_quiet {f : GateSeq → GateSeq} (h : ∀ q, (f q).state.drawing = true → q.state.drawing = true)
    (g : Gate) (s : State) : Quiet s (s.updateGate g f) := updateGate_quiet_at (h _)

theorem updateGate_quiet_of_rest {f : GateSeq → GateSeq} (h : ∀ q, (f q).state.drawing = false) (g : Gate)
    (s : State) : Quiet s (s.updateGate g f) :=
  updateGate_quiet (fun q hq => by rw [h q] at hq; cases hq) g s

theorem setRestartCauses_quiet {c : Causes} {s : State} (h : s.restartCauses.restart = true → c.restart = true) :
    Quiet s (s.setRestartCauses c) :=
  ⟨⟨⟨rfl, rfl, rfl, id, h, id, id, id, id, id⟩, rfl, rfl, id, fun _ => id⟩, fun _ => id⟩

theorem markIf_quiet (c : Bool) (k : EventKind) (s : State) : Quiet s (s.markIf c k) := by
  unfold State.markIf
  split
  · exact mark_quiet k s
  · exact .refl s

theorem count_quiet (f : LineCounters → LineCounters) (s : State) : Quiet s (s.count f) :=
  ⟨⟨⟨rfl, rfl, rfl, id, id, id, id, id, id, id⟩, rfl, rfl, id, fun _ => id⟩, fun _ => id⟩

/-! ## The column model -/

theorem evaluateWet_quiet (s : State) : Quiet s s.evaluateWet := by
  unfold State.evaluateWet
  split
  · exact .refl s
  · exact (setWatch_quiet _ s).trans (mark_quiet _ _)

theorem setColumn_quiet {c : Column} {s : State} (h : s.ColumnKept → c.Fits s.prof.capacity) :
    Quiet s (s.setColumn c) := by
  unfold State.setColumn
  split
  · exact setColumnRecord_quiet h
  · exact (setColumnRecord_quiet h).trans (evaluateWet_quiet _)

/-- A record of the column beside its list and its model state is replaced. -/
theorem setColumnRecord_quiet_of_records {c : Column} {s : State} (hs : c.segments = s.column.segments)
    (hm : c.seeded = s.column.seeded) : Quiet s (s.setColumnRecord c) :=
  setColumnRecord_quiet fun h => ((columnKept_iff s).mp h).congr hs hm

theorem modelEvent_quiet (r : ModelReason) (s : State) : Quiet s (s.modelEvent r) :=
  Quiet.trans (setColumnRecord_quiet_of_records (c := { s.column with lastReason := some r }) rfl rfl) (mark_quiet _ _)

theorem addLayers_quiet (l : List Segment) (s : State) : Quiet s (s.addLayers l) := by
  unfold State.addLayers
  split
  next hs =>
    have hcolumn : Quiet s (s.setColumn (s.column.afterLayers s.prof.capacity l)) :=
      setColumn_quiet fun h => afterLayers_fits l h hs
    dsimp only
    split
    · exact hcolumn
    · exact hcolumn.trans (modelEvent_quiet _ _)
  next => exact .refl s

theorem drawIncrement_quiet (mass : Nat) (s : State) : Quiet s (s.drawIncrement mass) := by
  have hcolumn : Quiet s (s.setColumn (s.column.afterDraw s.prof.density mass)) :=
    setColumn_quiet fun h => afterDraw_fits _ _ h
  unfold State.drawIncrement
  dsimp only
  split
  · exact .refl s
  · split
    · exact hcolumn
    · exact hcolumn.trans (modelEvent_quiet _ _)

theorem reanchor_quiet (depth : Nat) {s : State} (hs : s.column.seeded = true) : Quiet s (s.reanchor depth) := by
  have hcolumn : Quiet s (s.setColumn { s.column with segments := reanchored (s.target depth) s.column.segments }) :=
    setColumn_quiet fun h => reanchored_fits h hs (volumeBelow_le _ _)
  unfold State.reanchor
  dsimp only
  split
  · exact hcolumn
  · refine Quiet.trans (hcolumn.trans ?_) (modelEvent_quiet _ _)
    exact setColumnRecord_quiet_of_records rfl rfl

theorem recordReading_quiet (depth : Nat) (q : Quality) (sender : Nat) (d : Disposition) (s : State) :
    Quiet s (s.recordReading depth q sender d) := setColumnRecord_quiet_of_records rfl rfl

theorem seedWith_quiet (lower upper : Segment) (s : State)
    (h : lower.volume + upper.volume ≤ s.prof.capacity) : Quiet s (s.seedWith (listOf lower ++ listOf upper)) :=
  (setColumn_quiet fun _ => seed_fits _ _ _ h).trans (modelEvent_quiet _ _)

theorem seedSurface_quiet (depth : Nat) (s : State) : Quiet s (s.seedSurface depth) :=
  seedWith_quiet (looseSegment 0 .damp) (looseSegment (s.target depth) .damp) s
    (Nat.le_trans (Nat.le_of_eq (Nat.zero_add _)) (volumeBelow_le s.prof.bands depth))

theorem seedState_quiet (volume wet : Nat) (s : State) : Quiet s (s.seedState volume wet) := by
  refine seedWith_quiet _ _ s ?_
  simp only [looseSegment]
  omega

/-! ## The transmit queue -/

theorem tipEnd_quiet (o : Outcome) (load : Load) (s : State) : Quiet s (s.tipEnd o load) :=
  (setTip_idle_quiet s rfl).trans (mark_quiet _ _)

theorem dropReservation_quiet (station : Nat) (s : State) : Quiet s (s.dropReservation station) :=
  setReservations_quiet fun h => ReservationsFit.sublist h List.filter_sublist

theorem frameLost_quiet (f : Frame) (s : State) : Quiet s (s.frameLost f) := by
  cases f with
  | offer =>
    unfold State.frameLost
    dsimp only
    split
    · exact tipEnd_quiet _ _ s
    all_goals exact .refl s
  | withdraw => exact dropReservation_quiet _ s
  | tipped => exact (dropReservation_quiet _ s).trans (addLayers_quiet _ _)
  | holdSet | holdLift | drawn | surface | state => exact .refl s

theorem enqueue_calm (f : Frame) (s : State) : Calm s (s.enqueue f) := by
  have hline : Calm s (s.setLine (s.line.offer f).1) := setLine_calm fun h => offer_queueFits h f
  unfold State.enqueue
  split
  next l he => rw [he] at hline; exact hline
  next l lost he => rw [he] at hline; exact hline.trans (frameLost_quiet lost _).toCalm

theorem handOver_calm (f : Frame) (s : State) : Calm s (s.handOver f) := by
  unfold State.handOver
  split
  · exact .refl s
  · exact enqueue_calm f s
  · split
    · exact enqueue_calm f s
    · exact (frameLost_quiet f s).toCalm

theorem enqueue_traffic {f : Frame} (hf : f.kind.Untipped) {s : State} (h : s.NoTipTraffic) :
    (s.enqueue f).NoTipTraffic := by
  have hline := offer_untipped h.2 hf
  have hset : (s.setLine (s.line.offer f).1).NoTipTraffic := ⟨h.1, hline.1⟩
  unfold State.enqueue
  split
  next l he => rw [he] at hset; exact hset
  next l lost he =>
    rw [he] at hset
    have hlost := hline.2 lost (by rw [he])
    cases lost with
    | offer => exact absurd rfl hlost.1
    | withdraw => exact absurd rfl hlost.2.1
    | tipped => exact absurd rfl hlost.2.2
    | holdSet | holdLift | drawn | surface | state => exact hset

theorem handOver_quiet {f : Frame} {s : State} (hf : s.straps.role = .draw → f.kind.Untipped) :
    Quiet s (s.handOver f) := by
  refine ⟨handOver_calm f s, fun hr h => ?_⟩
  unfold State.handOver
  split
  · exact h
  · exact enqueue_traffic (hf hr) h
  · split
    · exact enqueue_traffic (hf hr) h
    · exact (frameLost_quiet f s).traffic hr h

theorem attemptFrame_kind (f : Frame) (s : State) : (s.attemptFrame f).kind = f.kind := by
  cases f <;> rfl

theorem startAttempt_quiet (s : State) : Quiet s s.startAttempt := by
  unfold State.startAttempt
  split
  · exact .refl s
  next hidle =>
    split
    next q hq =>
      refine setLine_quiet (fun h => ⟨?_, ?_, fun k hk => ?_⟩) fun h => ⟨fun x hx => ?_, h.2⟩
      · rw [modifyFirst_length]; exact h.1
      · have hnone : s.line.queue.countP (·.onWire) = 0 := by
          rw [List.countP_eq_zero]
          simpa [Line.sending] using hidle
        exact Nat.le_trans (modifyFirst_countP_le _ _ _ _) (Nat.le_of_eq (congrArg (· + 1) hnone))
      · rw [modifyFirst_countP fun x _ _ => by simp [QueuedFrame.hasKind, attemptFrame_kind]]
        exact h.2.2 k hk
      · rcases mem_modifyFirst hx with hx | ⟨y, hy, _, rfl⟩
        · exact h.1 x hx
        · simp only [attemptFrame_kind]; exact h.1 y hy
    next => exact .refl s

/-- The waiting replacements are handed over one after the other. -/
theorem settleWaiting_quiet (s : State) : Quiet s s.settleWaiting := by
  have hempty : Quiet s (s.setLine { s.line with waiting := [] }) :=
    setLine_quiet_of_sublist (List.Sublist.refl _) (List.nil_subset _)
  refine ⟨hempty.toCalm.trans (Calm.foldl (fun t f => handOver_calm f t) _ _), fun hr hn => ?_⟩
  have hwaiting := hn.2.2
  have hstart := hempty.traffic hr hn
  have hrole := hempty.role.trans hr
  unfold State.settleWaiting
  generalize s.setLine { s.line with waiting := [] } = t at hstart hrole ⊢
  generalize s.line.waiting = w at hwaiting
  induction w generalizing t with
  | nil => exact hstart
  | cons f fs ih =>
    rw [List.forall_mem_cons] at hwaiting
    have hf := handOver_quiet (s := t) (fun _ => hwaiting.1)
    exact ih _ (hf.traffic hrole hstart) (hf.role.trans hrole) hwaiting.2

theorem stopDriving_queueFits {l : Line} (h : QueueFits l.queue) : QueueFits l.stopDriving.queue :=
  h.map (fun _ => rfl) (fun _ hx => nomatch hx)

theorem stopDriving_untipped {l : Line} (h : l.Untipped) : l.stopDriving.Untipped := by
  refine ⟨fun q hq => ?_, h.2⟩
  obtain ⟨x, hx, rfl⟩ := List.mem_map.mp hq
  exact h.1 x hx

theorem loseArbitration_quiet (s : State) : Quiet s s.loseArbitration := by
  unfold State.loseArbitration
  split
  · refine Quiet.trans ?_ (settleWaiting_quiet _)
    exact setLine_quiet stopDriving_queueFits stopDriving_untipped
  · exact .refl s

theorem returnActive_quiet (s : State) : Quiet s s.returnActive := by
  unfold State.returnActive
  split
  · refine Quiet.trans ?_ (mark_quiet _ _)
    exact setLine_quiet_of_sublist (List.Sublist.refl _) fun _ h => h
  · exact .refl s

/-- The line controller's part of an own arrival. -/
theorem arrived_quiet (s : State) : Quiet s ((s.setLine s.line.arrived).returnActive).settleWaiting :=
  have hgone : Quiet s (s.setLine s.line.arrived) :=
    setLine_quiet_of_sublist List.eraseP_sublist fun _ h => h
  (hgone.trans (returnActive_quiet _)).trans (settleWaiting_quiet _)

/-! ## The tip sequencer and the reservation list -/

theorem removeOffer_quiet (s : State) : Quiet s s.removeOffer :=
  setLine_quiet_of_sublist List.eraseP_sublist fun _ h => h

theorem revokeOffer_calm (cause : WithdrawCause) (s : State) : Calm s (s.revokeOffer cause) := by
  unfold State.revokeOffer
  split
  · exact (removeOffer_quiet s).toCalm
  · exact handOver_calm _ s

theorem withdrawTip_quiet (cause : WithdrawCause) (s : State) : Quiet s (s.withdrawTip cause) := by
  have hend (load : Load) := (tipEnd_quiet (.withdrawn cause) load s).toCalm
  unfold State.withdrawTip
  split
  next load hstage =>
    refine Calm.quiet_of_stage ?_ (by rw [hstage]; exact fun h => nomatch h)
    dsimp only
    split
    · exact (hend load).trans (dropReservation_quiet _ _).toCalm
    · exact (hend load).trans (revokeOffer_calm _ _)
  next load hstage =>
    refine Calm.quiet_of_stage ?_ (by rw [hstage]; exact fun h => nomatch h)
    dsimp only
    split
    · exact (hend load).trans (dropReservation_quiet _ _).toCalm
    · exact (hend load).trans (handOver_calm _ _)
  all_goals exact .refl s

/-- Nothing is handed over that opens a tip. -/
theorem handOver_closed {f : Frame} {s : State} (h : ¬s.TipOpen) : ¬(s.handOver f).TipOpen :=
  fun ho => h ((handOver_calm f s).tip ho)

theorem withdrawTip_closed (cause : WithdrawCause) (s : State) : ¬(s.withdrawTip cause).TipOpen := by
  have hend (load : Load) : ¬(s.tipEnd (.withdrawn cause) load).TipOpen := fun h => nomatch h
  unfold State.withdrawTip
  split
  next load _ =>
    dsimp only
    split
    · exact hend load
    · exact fun h => hend load ((revokeOffer_calm cause _).tip h)
  next load _ =>
    dsimp only
    split
    · exact hend load
    · exact handOver_closed (hend load)
  all_goals next h => simp [State.TipOpen, TipStage.isOpen, h]

theorem enterTipping_calm (load : Load) (s : State) : Calm s (s.enterTipping load) :=
  setTip_calm fun h => nomatch h

theorem countLoad_calm (load : Load) (s : State) : Calm s (s.countLoad load) := by
  have hcount : Calm s (s.setTip { s.tip with cumulative := s.countedVolume load }) := setTip_calm id
  exact (hcount.trans (tipEnd_quiet .tipped load _).toCalm).trans (handOver_calm _ _)

theorem informBreakerOut_quiet (s : State) : Quiet s s.informBreakerOut := by
  unfold State.informBreakerOut
  split
  · exact .refl s
  · exact withdrawTip_quiet _ s
  · exact withdrawTip_quiet _ s
  all_goals next h => exact setTip_quiet (fun hf => nomatch hf) (by rw [h]; exact fun hf => nomatch hf)

theorem informBreakerOut_closed (s : State) : ¬s.informBreakerOut.TipOpen := by
  unfold State.informBreakerOut
  split
  next h => simp [State.TipOpen, TipStage.isOpen, h]
  · exact withdrawTip_closed _ s
  · exact withdrawTip_closed _ s
  all_goals exact fun hf => nomatch hf

theorem informBreakerIn_quiet (s : State) : Quiet s s.informBreakerIn := by
  unfold State.informBreakerIn
  split
  next h => exact setTip_quiet id (by rw [h]; exact fun hf => nomatch hf)
  all_goals exact .refl s

theorem recheckTip_quiet (s : State) : Quiet s s.recheckTip := by
  unfold State.recheckTip
  split
  · split
    · exact withdrawTip_quiet _ s
    · exact .refl s
  all_goals exact .refl s

/-- A reservation in range of a station that has none. -/
theorem addReservation_quiet {station cls volume : Nat} {s : State} (hr : loadInRange cls volume = true)
    (h : ∀ r ∈ s.reservations, r.station ≠ station) : Quiet s (s.addReservation station cls volume) :=
  setReservations_quiet fun hk => ReservationsFit.append hk hr h

theorem dropReservation_gone (station : Nat) (s : State) :
    ∀ r ∈ (s.dropReservation station).reservations, r.station ≠ station := by
  intro r hr
  simpa using (List.mem_filter.mp hr).2

theorem judgeOffer_quiet (station cls volume : Nat) (s : State) : Quiet s (s.judgeOffer station cls volume) := by
  have hdrop := dropReservation_quiet station s
  unfold State.judgeOffer
  dsimp only
  split
  next h =>
    split
    · exact hdrop.trans (addReservation_quiet h.2 (dropReservation_gone station s))
    · exact hdrop
  · exact .refl s

theorem reconcileReservation_quiet (station : Nat) {declared : Option (Nat × Nat)} (s : State)
    (h : ∀ x, declared = some x → loadInRange x.1 x.2 = true) : Quiet s (s.reconcileReservation station declared) := by
  unfold State.reconcileReservation
  split
  · exact dropReservation_quiet _ s
  next cls volume =>
    have hr := h _ rfl
    split
    next hnone =>
      refine addReservation_quiet hr fun r hmem => ?_
      have := List.find?_eq_none.mp hnone r hmem
      simpa using this
    · exact setReservations_quiet fun hk => ReservationsFit.restate hk station hr

theorem ownOfferJudged_quiet (s : State) : Quiet s s.ownOfferJudged := by
  unfold State.ownOfferJudged
  split
  next load hstage =>
    refine Calm.quiet_of_stage ?_ (by rw [hstage]; exact fun h => nomatch h)
    split
    · exact setTip_calm fun _ => by simp [State.TipOpen, TipStage.isOpen, hstage]
    · exact (tipEnd_quiet _ _ s).toCalm.trans (handOver_calm _ _)
  all_goals exact .refl s

/-! ## The gate sequencers -/

theorem setWindow_quiet (g : Gate) (w : Window) (s : State) : Quiet s (s.setWindow g w) := setWatch_quiet _ s

theorem stopOpenWindow_quiet (g : Gate) (s : State) : Quiet s (s.stopOpenWindow g) := by
  unfold State.stopOpenWindow
  split
  · exact setWindow_quiet _ _ s
  · exact .refl s

theorem startWetRest_quiet (wet : Bool) (s : State) : Quiet s (s.startWetRest wet) := by
  unfold State.startWetRest
  split
  · exact setWatch_quiet _ s
  · exact .refl s

theorem untipped_of_kind {f : Frame} (h : f.kind = .holdSet ∨ f.kind = .holdLift ∨ f.kind = .drawn ∨
    f.kind = .surface ∨ f.kind = .state) : f.kind.Untipped := by
  rcases h with h | h | h | h | h <;> rw [h] <;> exact ⟨nofun, nofun, nofun⟩

theorem formDrawn_quiet (s : State) : Quiet s s.formDrawn :=
  (setDrawn_quiet _ s).trans (handOver_quiet fun _ => untipped_of_kind (.inr (.inr (.inl rfl))))

theorem formDrawnIfAdvanced_quiet (s : State) : Quiet s s.formDrawnIfAdvanced := by
  unfold State.formDrawnIfAdvanced
  split
  · exact formDrawn_quiet s
  · exact .refl s

theorem formDrawnAtQuantum_quiet (s : State) : Quiet s s.formDrawnAtQuantum := by
  unfold State.formDrawnAtQuantum
  split
  · exact formDrawn_quiet s
  · exact .refl s

theorem enterClosed_quiet (g : Gate) (s : State) : Quiet s (s.enterClosed g) :=
  have hclose := (updateGate_quiet_of_rest (f := GateSeq.close s.time) (fun _ => rfl) g s).trans (mark_quiet .drawEnd _)
  (hclose.trans (startWetRest_quiet _ _)).trans (formDrawnIfAdvanced_quiet _)

theorem beginClosing_quiet (g : Gate) (s : State) : Quiet s (s.beginClosing g) := by
  have hstroke : Quiet s (s.updateGate g (GateSeq.beginClosing s.strokeMs)) :=
    updateGate_quiet_of_rest (fun _ => rfl) g s
  unfold State.beginClosing
  dsimp only
  split
  · exact hstroke.trans (enterClosed_quiet g _)
  · exact hstroke

theorem endDraw_quiet (cause : EndCause) (g : Gate) (s : State) : Quiet s (s.endDraw cause g) := by
  have hcause : Quiet s (s.updateGate g (GateSeq.endCause cause)) := updateGate_quiet (f := GateSeq.endCause cause) (fun _ h => h) g s
  unfold State.endDraw
  dsimp only
  split
  · exact hcause.trans (enterClosed_quiet g _)
  · exact hcause.trans (beginClosing_quiet g _)
  · exact (hcause.trans (setWindow_quiet g _ _)).trans (beginClosing_quiet g _)
  all_goals exact .refl s

theorem endDrawIf_quiet (cause : Option EndCause) (g : Gate) (s : State) : Quiet s (s.endDrawIf cause g) := by
  cases cause with
  | some c => exact endDraw_quiet c g s
  | none => exact .refl s

theorem noteWet_state (status : WetStatus) (limit : Nat) (q : GateSeq) :
    (GateSeq.noteWet status limit q).state = q.state := by
  unfold GateSeq.noteWet
  split
  · split
    · rfl
    · split <;> rfl
    · rfl
  · rfl

theorem noteWet_quiet (s before : State) : Quiet s (s.noteWet before) := by
  unfold State.noteWet
  split
  · exact .refl s
  · exact (updateGate_quiet (fun q h => by rwa [noteWet_state] at h) _ s).trans
      (updateGate_quiet (fun q h => by rwa [noteWet_state] at h) _ _)

theorem informGates_quiet (s before : State) : Quiet s (s.informGates before) :=
  ((noteWet_quiet s before).trans (endDrawIf_quiet _ _ _)).trans (endDrawIf_quiet _ _ _)

theorem inform_quiet (s before : State) : Quiet s (s.inform before) := by
  unfold State.inform
  split
  · split
    · exact recheckTip_quiet s
    · exact .refl s
  · exact informGates_quiet s before

theorem failGate_quiet (cause : GateFault) (g : Gate) (s : State) : Quiet s (s.failGate cause g) := by
  have hfail := ((stopOpenWindow_quiet g s).trans
    (updateGate_quiet_of_rest (f := GateSeq.fail cause s.time) (fun _ => rfl) g _)).trans (mark_quiet .fault _)
  unfold State.failGate
  dsimp only
  split
  · exact ((hfail.trans (mark_quiet _ _)).trans (startWetRest_quiet _ _)).trans (formDrawnIfAdvanced_quiet _)
  · exact hfail

end Sys2Proof.Machine
end

section
/-! What the operations of the breaker and of the hold list keep: work that ends leaves no permit without a parked
breaker, and an entry of the hold list ends at once what it forbids (R73, R74, R84). -/

namespace Sys2Proof.Machine

/-- What every command keeps besides: the hold list's keys and causes, and both safety invariants. -/
structure Kept (s t : State) : Prop extends Sound s t where
  traffic   : s.straps.role = .draw → s.NoTipTraffic → t.NoTipTraffic
  holdsKept : s.HoldsKept → t.HoldsKept
  tipSafe   : s.TipSafe → t.TipSafe
  drawSafe  : s.DrawSafe → t.DrawSafe

theorem Kept.trans {s t u : State} (h : Kept s t) (k : Kept t u) : Kept s u :=
  ⟨h.toSound.trans k.toSound, fun hr => k.traffic (h.straps ▸ hr) ∘ h.traffic hr, k.holdsKept ∘ h.holdsKept,
    k.tipSafe ∘ h.tipSafe, k.drawSafe ∘ h.drawSafe⟩

theorem Kept.foldl {α : Type} {f : State → α → State} (h : ∀ s x, Kept s (f s x)) {l : List α} {s t : State}
    (ht : Kept s t) : Kept s (l.foldl f t) := by
  induction l generalizing t with
  | nil => exact ht
  | cons x xs ih => exact ih (ht.trans (h t x))

theorem workToken_congr {s t : State} (h : t.breaker.state = s.breaker.state) : t.workToken = s.workToken := by
  simp only [State.workToken, h]

theorem workToken_none_of_parked {s : State} (h : s.breaker.state = .parked) : s.workToken = none := by
  simp only [State.workToken, h]

theorem Calm.tipForbidden {s t : State} (h : Calm s t) : t.TipForbidden ↔ s.TipForbidden := by
  simp only [State.TipForbidden, h.holds, h.toSound.own]

theorem Calm.workForbidden {s t : State} (h : Calm s t) : t.WorkForbidden ↔ s.WorkForbidden := by
  simp only [State.WorkForbidden, h.holds, h.toSound.own]

theorem Quiet.kept {s t : State} (h : Quiet s t) : Kept s t := by
  refine ⟨h.toSound, h.traffic, fun hk => ?_, fun hk hr => ?_, fun hk hr hh => ?_⟩
  · simpa only [State.HoldsKept, h.holds] using hk
  · obtain ⟨hforbid, hopen, hwork⟩ := hk (h.role ▸ hr)
    refine ⟨fun hf ho => hforbid (h.tipForbidden.mp hf) (h.tip ho), fun ho => ?_, fun hf => ?_⟩
    · rw [h.breaker]; exact hopen (h.tip ho)
    · rw [workToken_congr h.breaker]; exact hwork (h.workForbidden.mp hf)
  · obtain ⟨ha, hb⟩ := hk (h.role ▸ hr) (h.holds ▸ hh)
    exact ⟨Bool.eq_false_iff.mpr fun hd => by have := h.gates .a hd; simp_all [State.gate, PerGate.get],
      Bool.eq_false_iff.mpr fun hd => by have := h.gates .b hd; simp_all [State.gate, PerGate.get]⟩

theorem Kept.refl (s : State) : Kept s s := (Quiet.refl s).kept

/-! ## Breaker work that ends -/

/-- What an operation keeps after which no work goes on, and after which the breaker is parked or was not before. -/
structure Rests (s t : State) : Prop extends Sound s t where
  traffic : s.straps.role = .draw → s.NoTipTraffic → t.NoTipTraffic
  holds   : t.holds = s.holds
  tip     : t.TipOpen → s.TipOpen
  gates   : ∀ g, (t.gate g).state.drawing = true → (s.gate g).state.drawing = true
  work    : t.workToken = none
  parked  : t.TipOpen → t.breaker.state = .parked ∨ s.breaker.state ≠ .parked

theorem Quiet.rests {s t : State} (h : Quiet s t) (hw : t.workToken = none) : Rests s t := by
  refine ⟨h.toSound, h.traffic, h.holds, h.tip, h.gates, hw, fun _ => ?_⟩
  rw [h.breaker]
  exact Classical.em _

theorem Quiet.trans_rests {s t u : State} (h : Quiet s t) (k : Rests t u) : Rests s u :=
  ⟨h.toSound.trans k.toSound, fun hr => k.traffic (h.straps ▸ hr) ∘ h.traffic hr, k.holds.trans h.holds,
    h.tip ∘ k.tip, fun g => h.gates g ∘ k.gates g, k.work, fun ho => h.breaker ▸ k.parked ho⟩

theorem Rests.trans_quiet {s t u : State} (h : Rests s t) (k : Quiet t u) : Rests s u :=
  ⟨h.toSound.trans k.toSound, fun hr => k.traffic (h.straps ▸ hr) ∘ h.traffic hr, k.holds.trans h.holds,
    h.tip ∘ k.tip, fun g => h.gates g ∘ k.gates g, (workToken_congr k.breaker).trans h.work,
    fun ho => k.breaker ▸ h.parked (k.tip ho)⟩

theorem Rests.kept {s t : State} (h : Rests s t) : Kept s t := by
  refine ⟨h.toSound, h.traffic, fun hk => ?_, fun hk hr => ?_, fun hk hr hh => ?_⟩
  · simpa only [State.HoldsKept, h.holds] using hk
  · obtain ⟨hforbid, hopen, _⟩ := hk (h.role ▸ hr)
    refine ⟨fun hf ho => hforbid ?_ (h.tip ho), fun ho => ?_, fun _ => h.work⟩
    · simpa only [State.TipForbidden, h.holds, h.toSound.own] using hf
    · exact (h.parked ho).resolve_right (not_not_intro (hopen (h.tip ho)))
  · obtain ⟨ha, hb⟩ := hk (h.role ▸ hr) (h.holds ▸ hh)
    exact ⟨Bool.eq_false_iff.mpr fun hd => by have := h.gates .a hd; simp_all [State.gate, PerGate.get],
      Bool.eq_false_iff.mpr fun hd => by have := h.gates .b hd; simp_all [State.gate, PerGate.get]⟩

theorem setBreaker_rests {b : Breaker} {s : State} (hw : ∀ token, b.state ≠ .working token)
    (h : b.state = .parked ∨ s.breaker.state ≠ .parked) : Rests s (s.setBreaker b) := by
  refine ⟨setBreaker_sound b s, fun _ => id, rfl, id, fun _ => id, ?_, fun _ => h⟩
  unfold State.workToken
  split
  next token ht => exact absurd ht (hw token)
  all_goals rfl

theorem enterBreaker_rests {b : BreakerState} {s : State} (hw : ∀ token, b ≠ .working token)
    (h : b = .parked ∨ s.breaker.state ≠ .parked) : Rests s (s.enterBreaker b) := by
  have hset : Rests s (State.mark .breakerChange
      (s.setBreaker { s.breaker with state := b, renewal := Timer.stopped, returning := Timer.stopped })) :=
    (setBreaker_rests (s := s) hw h).trans_quiet (mark_quiet _ _)
  unfold State.enterBreaker
  dsimp only
  split
  · exact hset.trans_quiet (mark_quiet _ _)
  all_goals exact hset

theorem parkBreaker_rests (s : State) : Rests s s.parkBreaker :=
  (enterBreaker_rests (b := .parked) nofun (.inl rfl)).trans_quiet (informBreakerIn_quiet _)

theorem recordWorkEnd_quiet (cause : WorkEnd) (s : State) : Quiet s (s.recordWorkEnd cause) := setBreaker_quiet rfl

theorem endBreakerWork_rests (cause : WorkEnd) (s : State) : Rests s (s.endBreakerWork cause) := by
  have hrecord := recordWorkEnd_quiet cause s
  unfold State.endBreakerWork
  split
  next token hstate =>
    dsimp only
    split
    · exact hrecord.trans_rests (parkBreaker_rests _)
    · refine hrecord.trans_rests (Rests.trans_quiet (enterBreaker_rests (b := .returning) nofun (.inr ?_))
        (setBreaker_quiet rfl))
      rw [hrecord.breaker, hstate]
      exact nofun
  all_goals next hstate => exact (Quiet.refl s).rests (by simp only [State.workToken, hstate])

theorem dropBreaker_rests {s : State} (h : s.breaker.state ≠ .parked) : Rests s s.dropBreaker := by
  unfold State.dropBreaker
  split
  · exact parkBreaker_rests s
  · exact enterBreaker_rests nofun (.inr h)

theorem breakerLoopOpens_rests (s : State) : Rests s s.breakerLoopOpens := by
  unfold State.breakerLoopOpens
  split
  next token hstate =>
    refine (recordWorkEnd_quiet .stopLoop s).trans_rests (dropBreaker_rests ?_)
    rw [(recordWorkEnd_quiet .stopLoop s).breaker, hstate]
    exact nofun
  next hstate => exact dropBreaker_rests (by rw [hstate]; exact nofun)
  all_goals next hstate => exact (Quiet.refl s).rests (by simp only [State.workToken, hstate])

/-- The breaker leaves PARKED for work that no hold forbids, or for none, and the tip sequencer withdraws its permit. -/
theorem informBreakerOut_kept {b : Breaker} {s u : State} (hu : Quiet (s.setBreaker b) u)
    (hw : s.WorkForbidden → ∀ token, b.state ≠ .working token) : Kept s u.informBreakerOut := by
  have hout := hu.trans (informBreakerOut_quiet u)
  refine ⟨(setBreaker_sound b s).trans hout.toSound, hout.traffic, hout.kept.holdsKept, fun _ _ => ?_,
    hout.kept.drawSafe⟩
  have hclosed := informBreakerOut_closed u
  refine ⟨fun _ => hclosed, fun ho => absurd ho hclosed, fun hf => ?_⟩
  unfold State.workToken
  rw [hout.breaker]
  split
  next token ht => exact absurd ht (hw (hout.workForbidden.mp hf) token)
  all_goals rfl

/-! ## Entries of the hold list -/

/-- The holders and kinds of a list's entries (R57). -/
def holdKeys (l : List Hold) : List (Nat × HoldKind) := l.map (fun h => (h.holder, h.body.kind))

theorem isOf_iff (holder : Nat) (kind : HoldKind) (h : Hold) :
    h.isOf holder kind = true ↔ h.holder = holder ∧ h.body.kind = kind := by
  simp [Hold.isOf]

theorem holdOf_none_iff (holder : Nat) (kind : HoldKind) (s : State) :
    s.holdOf holder kind = none ↔ ∀ h ∈ s.holds, ¬(h.holder = holder ∧ h.body.kind = kind) := by
  simp only [State.holdOf, List.find?_eq_none, isOf_iff]

theorem replaceHold_keys (holder : Nat) (body : HoldBody) (l : List Hold) :
    holdKeys (replaceHold holder body l) = holdKeys l := by
  simp only [holdKeys, replaceHold, List.map_map]
  congr 1
  funext h
  simp only [Function.comp_apply]
  split
  next hof => rw [((isOf_iff _ _ _).mp hof).2]
  next => rfl

/-- The list as an entry leaves it: the entry at the end, or its fields in the place of its old ones. -/
theorem enterHold_eq (holder : Nat) (body : HoldBody) (s : State) :
    s.enterHold holder body = s ∨
    ∃ l, s.enterHold holder body = s.holdChanged holder body l ∧
      (∀ h ∈ l, h ∈ s.holds ∨ (h.holder = holder ∧ h.body = body)) ∧
      ((holdKeys s.holds).Nodup → (holdKeys l).Nodup) := by
  unfold State.enterHold
  split
  next hnone =>
    refine .inr ⟨_, rfl, ?_, fun hn => ?_⟩
    · rw [List.forall_mem_append, List.forall_mem_singleton]
      exact ⟨fun h hh => .inl hh, .inr ⟨rfl, rfl⟩⟩
    · rw [holdKeys, List.map_append, List.nodup_append]
      refine ⟨hn, nodup_one _, ?_⟩
      simp only [List.map_cons, List.map_nil, List.mem_singleton, List.mem_map]
      rintro _ ⟨h, hh, rfl⟩ _ rfl he
      exact (holdOf_none_iff _ _ _).mp hnone h hh (Prod.mk.inj he)
  next =>
    split
    · exact .inl rfl
    · refine .inr ⟨_, rfl, fun h hh => ?_, by rw [replaceHold_keys]; exact id⟩
      obtain ⟨x, hx, rfl⟩ := List.mem_map.mp hh
      split
      next hof => exact .inr ⟨((isOf_iff _ _ _).mp hof).1, rfl⟩
      next => exact .inl hx

theorem endDraw_rests (cause : EndCause) (g : Gate) (s : State) :
    ((s.endDraw cause g).gate g).state.drawing = false := by
  have hclosed (t : State) : ((t.enterClosed g).gate g).state.drawing = false := by
    have hrest := (startWetRest_quiet (t.gate g).wetRecord
      (State.mark .drawEnd (t.updateGate g (GateSeq.close t.time)))).trans (formDrawnIfAdvanced_quiet _)
    refine Bool.eq_false_iff.mpr fun hd => ?_
    have := hrest.gates g hd
    simp [State.gate, State.updateGate, GateSeq.close, GateState.drawing] at this
  have hclosing (t : State) : ((t.beginClosing g).gate g).state.drawing = false := by
    unfold State.beginClosing
    dsimp only
    split
    · exact hclosed _
    · simp [State.gate, State.updateGate, GateSeq.beginClosing, GateState.drawing]
  unfold State.endDraw
  dsimp only
  split
  · exact hclosed _
  · exact hclosing _
  · exact hclosing _
  all_goals next h => rw [h]; rfl

theorem queueHold_quiet {f : Frame} (hf : f.kind.Untipped) (s : State) : Quiet s (s.queueHold f) := by
  unfold State.queueHold
  split
  · exact handOver_quiet fun _ => hf
  · exact .refl s

theorem reportHold_quiet (holder : Nat) {f : Frame} (hf : f.kind.Untipped) (s : State) :
    Quiet s (s.reportHold holder f) := by
  unfold State.reportHold
  split
  · exact queueHold_quiet hf s
  · exact .refl s

/-- The list changed by an entry: it ends the tip, the work and the draws that it forbids, and forbids nothing else
(R73, R74). -/
theorem holdChanged_kept {holder : Nat} {body : HoldBody} {l : List Hold} {s : State} (hb : body.hasCause = true)
    (hl : ∀ h ∈ l, h ∈ s.holds ∨ (h.holder = holder ∧ h.body = body))
    (hn : (holdKeys s.holds).Nodup → (holdKeys l).Nodup) : Kept s (s.holdChanged holder body l) := by
  have hreport : Quiet (s.setHolds l)
      ((State.mark .holdChange (s.setHolds l)).reportHold holder (.holdSet body)) :=
    (mark_quiet _ _).trans (reportHold_quiet holder (untipped_of_kind (.inl rfl)) _)
  unfold State.holdChanged
  generalize (State.mark .holdChange (s.setHolds l)).reportHold holder (.holdSet body) = r at hreport ⊢
  have hsound := (setHolds_sound l s).trans hreport.toSound
  have hkept : (s.HoldsKept → State.HoldsKept r) := fun hk => by
    simp only [State.HoldsKept, hreport.holds]
    exact ⟨hn hk.1, fun h hh => (hl h hh).elim (hk.2 h) fun he => he.2 ▸ hb⟩
  unfold State.holdEffects
  split
  next hrole =>
    have hdraw {t : State} (ht : Sound r t) : t.DrawSafe := fun hr => by
      rw [ht.role, hrole] at hr; cases hr
    have hended {t : State} (ht : Rests r t) (hc : ¬t.TipOpen) : Kept s t :=
      ⟨hsound.trans ht.toSound, fun hr => ht.traffic (hsound.straps ▸ hr) ∘ hreport.traffic hr,
        ht.kept.holdsKept ∘ hkept, fun _ _ => ⟨fun _ => hc, fun ho => absurd ho hc, fun _ => ht.work⟩,
        fun _ => hdraw ht.toSound⟩
    have hboth : Kept s ((r.withdrawTip .hold).endBreakerWork .hold) :=
      hended ((withdrawTip_quiet .hold r).trans_rests (endBreakerWork_rests .hold _))
        fun ho => withdrawTip_closed .hold r ((endBreakerWork_rests .hold _).tip ho)
    have hwork {t : State} (ht : Quiet r t) (hkind : ∀ h ∈ l, h ∉ s.holds → h.body.kind ≠ .halt ∧
        ¬(h.holder = s.own ∧ h.body.kind = .entry)) (hk : s.TipSafe) (hr : t.straps.role = .tip) :
        t.WorkForbidden → t.workToken = none := by
      intro hf
      have hall := hreport.trans ht
      obtain ⟨h, hh, hforbid⟩ := hall.workForbidden.mp hf
      rw [workToken_congr hall.breaker]
      refine (hk (by rw [← hr, (hsound.trans ht.toSound).role])).2.2 ⟨h, ?_, hforbid⟩
      exact Classical.byContradiction fun hnot =>
        hforbid.elim (hkind h hh hnot).1 (hkind h hh hnot).2
    unfold State.tipHoldEffects
    split
    next => exact hboth
    next hkind =>
      split
      · exact hboth
      next hother =>
        have hnew : ∀ h ∈ l, h ∉ s.holds → h.body.kind = .entry ∧ h.holder ≠ s.own := fun h hh hnot => by
          obtain ⟨hholder, hbody⟩ := (hl h hh).resolve_left hnot
          rw [hbody, hkind, hholder, ← hsound.own]
          exact ⟨rfl, hother⟩
        refine ⟨hsound, fun hr => hreport.traffic hr, hkept, fun hk hr => ?_, fun _ => hdraw (.refl r)⟩
        obtain ⟨hforbid, hopen, _⟩ := hk (by rw [← hr, hsound.role])
        refine ⟨fun hf ho => ?_, fun ho => ?_, hwork (.refl r) (fun h hh hnot => ?_) hk hr⟩
        · obtain ⟨h, hh, hkinds⟩ := hreport.tipForbidden.mp hf
          refine hforbid ⟨h, ?_, hkinds⟩ (hreport.tip ho)
          exact Classical.byContradiction fun hnot => by
            obtain ⟨hentry, hne⟩ := hnew h hh hnot
            rw [hentry] at hkinds
            exact hkinds.elim nofun fun hx => hx.elim nofun fun hx => hne hx.1
        · rw [hreport.breaker]; exact hopen (hreport.tip ho)
        · obtain ⟨hentry, hne⟩ := hnew h hh hnot
          rw [hentry]
          exact ⟨nofun, fun hx => hne hx.1⟩
    next hkind =>
      have hwithdraw := withdrawTip_quiet .hold r
      have hclosed := withdrawTip_closed .hold r
      refine ⟨hsound.trans hwithdraw.toSound, (hreport.trans hwithdraw).traffic, hwithdraw.kept.holdsKept ∘ hkept,
        fun hk hr => ⟨fun _ => hclosed, fun ho => absurd ho hclosed, hwork hwithdraw (fun h hh hnot => ?_) hk hr⟩,
        fun _ => hdraw hwithdraw.toSound⟩
      rw [((hl h hh).resolve_left hnot).2, hkind]
      exact ⟨nofun, nofun⟩
  next hrole =>
    have hends := (endDraw_quiet .hold .a r).trans (endDraw_quiet .hold .b _)
    refine ⟨hsound.trans hends.toSound, (hreport.trans hends).traffic, hends.kept.holdsKept ∘ hkept,
      fun _ hr => ?_, fun _ _ _ => ⟨?_, ?_⟩⟩
    · have hr' : (State.gateHoldEffects r).straps.role = .draw := hends.role.trans hrole
      rw [hr'] at hr; cases hr
    · exact Bool.eq_false_iff.mpr fun hd =>
        Bool.eq_false_iff.mp (endDraw_rests .hold .a r) ((endDraw_quiet .hold .b _).gates .a hd)
    · exact endDraw_rests .hold .b _

theorem enterHold_kept (holder : Nat) {body : HoldBody} (hb : body.hasCause = true) (s : State) :
    Kept s (s.enterHold holder body) := by
  rcases enterHold_eq holder body s with he | ⟨l, he, hl, hn⟩
  · rw [he]; exact .refl s
  · rw [he]; exact holdChanged_kept hb hl hn

theorem removeHold_kept (holder : Nat) (kind : HoldKind) (s : State) : Kept s (s.removeHold holder kind) := by
  unfold State.removeHold
  split
  next =>
    have hsub : (s.holds.filter (fun h => !h.isOf holder kind)).Sublist s.holds := List.filter_sublist
    have hreport : Quiet (s.setHolds (s.holds.filter (fun h => !h.isOf holder kind)))
        ((State.mark .holdChange (s.setHolds (s.holds.filter (fun h => !h.isOf holder kind)))).reportHold holder
          (.holdLift kind)) :=
      (mark_quiet _ _).trans (reportHold_quiet holder (untipped_of_kind (.inr (.inl rfl))) _)
    generalize s.holds.filter (fun h => !h.isOf holder kind) = l at hsub hreport ⊢
    have hset : Kept s (s.setHolds l) := by
      refine ⟨setHolds_sound l s, fun _ => id, fun hk => ⟨?_, fun h hh => hk.2 h (hsub.subset hh)⟩, fun hk hr => ?_,
        fun hk hr hne => hk hr fun h0 => hne ?_⟩
      · exact hk.1.sublist (hsub.map _)
      · obtain ⟨hforbid, hopen, hwork⟩ := hk hr
        exact ⟨fun ⟨h, hh, hx⟩ => hforbid ⟨h, hsub.subset hh, hx⟩, hopen,
          fun ⟨h, hh, hx⟩ => hwork ⟨h, hsub.subset hh, hx⟩⟩
      · exact List.sublist_nil.mp (h0 ▸ hsub)
    exact hset.trans hreport.kept
  next => exact .refl s

theorem reconcileHold_kept (holder : Nat) (kind : HoldKind) {listed : Option HoldBody}
    (h : ∀ body, listed = some body → body.hasCause = true) (s : State) :
    Kept s (s.reconcileHold holder kind listed) := by
  cases listed with
  | some body => exact enterHold_kept holder (h body rfl) s
  | none => exact removeHold_kept holder kind s

theorem stateHaltBody_hasCause (p : StatePayload) (body : HoldBody) (h : stateHaltBody p = some body) :
    body.hasCause = true := by
  unfold stateHaltBody at h
  split at h
  · cases h
  next hc =>
    cases h
    simpa [HoldBody.hasCause] using hc

theorem stateEntryBody_hasCause (p : StatePayload) (body : HoldBody) (h : stateEntryBody p = some body) :
    body.hasCause = true := by
  unfold stateEntryBody at h
  split at h <;> cases h
  rfl

theorem stateHangupBody_hasCause (p : StatePayload) (body : HoldBody) (h : stateHangupBody p = some body) :
    body.hasCause = true := by
  unfold stateHangupBody at h
  split at h
  · cases h; rfl
  · split at h <;> cases h
    rfl

theorem reconcileHolds_kept (holder : Nat) (p : StatePayload) (s : State) : Kept s (s.reconcileHolds holder p) :=
  ((reconcileHold_kept holder _ (stateHaltBody_hasCause p) s).trans
    (reconcileHold_kept holder _ (stateEntryBody_hasCause p) _)).trans
    (reconcileHold_kept holder _ (stateHangupBody_hasCause p) _)

/-! ## The own HALT and the gate faults -/

theorem addOwnCause_kept {c : Causes} (hc : c.isEmpty = false) (s : State) : Kept s (s.addOwnCause c) := by
  unfold State.addOwnCause
  split
  · exact (setRestartCauses_quiet fun h => by simp [Causes.union, h]).kept
  · refine enterHold_kept _ ?_ s
    simp only [HoldBody.hasCause, Causes.isEmpty, Causes.union] at hc ⊢
    grind

theorem reportUnproven_kept (g : Gate) (s : State) : Kept s (s.reportUnproven g) := by
  unfold State.reportUnproven
  split
  · exact .refl s
  · exact addOwnCause_kept rfl s

theorem enterFault_kept (cause : GateFault) (g : Gate) (s : State) : Kept s (s.enterFault cause g) :=
  (failGate_quiet cause g s).kept.trans (reportUnproven_kept g _)

theorem loopEndsDraw_quiet (g : Gate) (s : State) : Quiet s (s.loopEndsDraw g) := by
  unfold State.loopEndsDraw
  split
  · exact updateGate_quiet (f := GateSeq.endCause .stopLoop) (fun _ h => h) g s
  · exact .refl s

theorem gateLoopOpens_quiet (g : Gate) (s : State) : Quiet s (s.gateLoopOpens g) := by
  unfold State.gateLoopOpens
  split
  · split
    · exact ((loopEndsDraw_quiet g s).trans (stopOpenWindow_quiet g _)).trans (enterClosed_quiet g _)
    · split
      · exact failGate_quiet _ g s
      · exact (loopEndsDraw_quiet g s).trans (failGate_quiet _ g _)
  · exact .refl s

theorem reportLoopFault_kept (s before : State) (g : Gate) : Kept s (s.reportLoopFault before g) := by
  unfold State.reportLoopFault
  split
  · exact reportUnproven_kept g s
  · exact .refl s

theorem drawLoopOpens_kept (s : State) : Kept s s.drawLoopOpens :=
  ((((gateLoopOpens_quiet .a s).trans (gateLoopOpens_quiet .b _)).kept.trans (addOwnCause_kept rfl _)).trans
    (reportLoopFault_kept _ s .a)).trans (reportLoopFault_kept _ s .b)

theorem tipLoopOpens_kept (s : State) : Kept s s.tipLoopOpens :=
  (breakerLoopOpens_rests s).kept.trans (addOwnCause_kept rfl _)

/-! ## The watch unit and failed attempts -/

theorem raiseRanging_kept (depth : Nat) (s : State) : Kept s (s.raiseRanging depth) :=
  ((setWatch_quiet _ s).kept.trans (enterHold_kept _ rfl _)).trans (mark_quiet .hangup _).kept

theorem raiseStarved_kept (g : Gate) (s : State) : Kept s (s.raiseStarved g) := by
  unfold State.raiseStarved
  split
  · exact .refl s
  · exact (enterHold_kept _ rfl s).trans (mark_quiet .hangup _).kept

theorem liftHangup_kept (s : State) : Kept s s.liftHangup :=
  ((removeHold_kept _ _ s).trans (setWatch_quiet _ _).kept).trans (mark_quiet .hangup _).kept

theorem reanchorReading_quiet (sender depth : Nat) (q : Quality) {s : State} (hs : s.column.seeded = true) :
    Quiet s (s.reanchorReading sender depth q) :=
  (reanchor_quiet depth hs).trans (recordReading_quiet _ _ _ _ _)

theorem applyDecision_kept (d : Decision) (sender depth : Nat) (q : Quality) {s : State}
    (hs : s.column.seeded = true) : Kept s (s.applyDecision d sender depth q) := by
  have hheld : Quiet s (s.holdReading sender depth q) := recordReading_quiet _ _ _ _ s
  cases d with
  | reanchor => exact (reanchorReading_quiet sender depth q hs).kept
  | reanchorAndLift => exact (reanchorReading_quiet sender depth q hs).kept.trans (liftHangup_kept _)
  | hold => exact hheld.kept
  | holdAndGap => exact (hheld.trans (setWatch_quiet _ _)).kept
  | holdAndRaise => exact hheld.kept.trans (raiseRanging_kept depth _)

theorem takeSurface_kept (sender depth : Nat) (q : Quality) (s : State) : Kept s (s.takeSurface sender depth q) := by
  unfold State.takeSurface
  split
  next hs =>
    split
    · exact (reanchorReading_quiet sender depth _ hs).kept
    · exact applyDecision_kept _ sender depth _ hs
  next => exact ((seedSurface_quiet depth s).trans (recordReading_quiet _ _ _ _ _)).kept

theorem handOverSurface_kept (depth : Nat) (q : Quality) (s : State) : Kept s (s.handOverSurface depth q) := by
  unfold State.handOverSurface
  split
  · exact takeSurface_kept _ _ _ s
  · exact (handOver_quiet fun _ => untipped_of_kind (.inr (.inr (.inr (.inl rfl))))).kept

theorem removedAtIsolation_kept (f : Frame) (s : State) : Kept s (s.removedAtIsolation f) := by
  unfold State.removedAtIsolation
  split
  · exact takeSurface_kept _ _ _ s
  all_goals exact (frameLost_quiet _ s).kept

theorem isolate_quiet (s : State) : Quiet s (s.setLine s.line.isolate) := by
  refine setLine_quiet (fun h => ?_) fun h => ⟨fun q hq => ?_, fun f hf => h.2 f (List.mem_filter.mp hf).1⟩
  · exact (h.sublist List.filter_sublist).map (fun _ => rfl) (fun _ => id)
  · obtain ⟨x, hx, rfl⟩ := List.mem_map.mp hq
    exact h.1 x (List.mem_filter.mp hx).1

theorem enterIsolated_kept (s : State) : Kept s s.enterIsolated :=
  Kept.foldl (fun t f => removedAtIsolation_kept f t)
    (((isolate_quiet s).trans (mark_quiet .line _)).trans (withdrawTip_quiet .line _)).kept

theorem failRetry_quiet (s : State) : Quiet s s.failRetry := by
  refine Quiet.trans ?_ (settleWaiting_quiet _)
  exact setLine_quiet_of_sublist (List.Sublist.refl _) fun _ h => h

theorem isolateAtThird_kept (s : State) : Kept s s.isolateAtThird := by
  unfold State.isolateAtThird
  split
  · exact enterIsolated_kept s
  · exact .refl s

theorem discard_kept (p : QueuedFrame → Bool) (f : Frame) (s : State) : Kept s (s.discard p f) := by
  refine Kept.trans (Quiet.kept ?_) (isolateAtThird_kept _)
  refine Quiet.trans ?_ (frameLost_quiet f _)
  exact setLine_quiet_of_sublist List.eraseP_sublist fun _ h => h

theorem failAttempt_kept (p : QueuedFrame → Bool) (s : State) : Kept s (s.failAttempt p) := by
  unfold State.failAttempt
  split
  next => exact .refl s
  next q _ =>
    have hcount : Quiet s (s.setLine { s.line with counters := s.line.counters.oneFailure }) := setLine_quiet id id
    dsimp only
    split
    · refine (Quiet.trans (hcount.trans ?_) (failRetry_quiet _)).kept
      exact setLine_quiet stopDriving_queueFits stopDriving_untipped
    · split
      · refine Kept.trans (Kept.trans (hcount.trans ?_).kept (discard_kept p q.frame _)) (settleWaiting_quiet _).kept
        exact setLine_quiet id id
      · refine (Quiet.trans (hcount.trans (setLine_quiet (fun h => ?_) fun h => ?_)) (settleWaiting_quiet _)).kept
        · exact stopDriving_queueFits (QueueFits.modifyFirst h p (fun _ _ _ => rfl) fun _ _ _ => rfl)
        · refine stopDriving_untipped ⟨fun x hx => ?_, h.2⟩
          rcases mem_modifyFirst hx with hx | ⟨y, hy, _, rfl⟩
          · exact h.1 x hx
          · exact h.1 y hy

end Sys2Proof.Machine
end

section
/-! What each command keeps: requests, arrivals, line events, field edges, timers and the store, each from the
operations of its blocks. -/

namespace Sys2Proof.Machine

/-! ## Answers within the length byte (R187) -/

/-- The body of an answer leaves room for length, code, request and CRC. -/
def AnswerBody.Fits (b : AnswerBody) : Prop := b.bytes.length ≤ 250

@[simp] theorem nat1_length (n : Nat) : (nat1 n).length = 1 := rfl
@[simp] theorem nat2_length (n : Nat) : (nat2 n).length = 2 := rfl
@[simp] theorem nat4_length (n : Nat) : (nat4 n).length = 4 := rfl
@[simp] theorem int4_length (n : Int) : (int4 n).length = 4 := rfl
@[simp] theorem bytes2_length (v : Word16) : (bytes2 v).length = 2 := rfl
@[simp] theorem bytes4_length (v : Word32) : (bytes4 v).length = 4 := rfl

theorem answer_length (a : Answer) : a.bytes.length = a.body.bytes.length + 5 := by
  simp only [Answer.bytes, List.length_append, nat1_length, bytes2_length]
  omega

theorem segmentBytes_length (g : Segment) : (segmentBytes g).length = 7 := by
  simp [segmentBytes]

theorem holdBytes_length (h : Hold) : (holdBytes h).length = 15 := by
  unfold holdBytes
  split <;> simp

theorem peerBytes_length (r : PeerRecord) (since : Option Nat) : (peerBytes r since).length = 51 := by
  unfold peerBytes
  dsimp only
  split <;> split <;> simp [stateBytes]

theorem reservationBytes_length (r : Reservation) : (reservationBytes r).length = 10 := by
  simp [reservationBytes]

theorem headBytes_length (h : ColumnHead) : (headBytes h).length = 41 := by
  have hreading : (readingBytes h.records.lastReading).length = 9 := by
    unfold readingBytes
    split <;> simp
  simp [headBytes, hreading]

theorem flatten_length_le {α : Type} {n : Nat} {l : List (List α)} (h : ∀ x ∈ l, x.length ≤ n) :
    l.flatten.length ≤ l.length * n := by
  induction l with
  | nil => simp
  | cons x xs ih =>
    rw [List.forall_mem_cons] at h
    have := ih h.2
    simp only [List.flatten_cons, List.length_append, List.length_cons, Nat.add_mul, Nat.one_mul]
    omega

/-- The entries of one part, each of at most `n` bytes. -/
theorem entries_length_le {n : Nat} {s : Snapshot} (h : ∀ x ∈ s.entryBytes, x.length ≤ n) (from_ : Nat) :
    ((s.entryBytes.drop from_).take s.perPart).flatten.length ≤ s.perPart * n :=
  Nat.le_trans (flatten_length_le fun x hx => h x (List.mem_of_mem_drop (List.mem_of_mem_take hx)))
    (Nat.mul_le_mul_right n (List.length_take_le _ _))

theorem part_fits (s : Snapshot) (number parts : Nat) : (AnswerBody.part s number parts).Fits := by
  have hpart : (s.partBytes number).length ≤ 102 := by
    unfold Snapshot.partBytes
    cases s with
    | column head l =>
      have hlen := entries_length_le (n := 7) (s := .column head l)
        (by simp [Snapshot.entryBytes, segmentBytes_length]) ((number - 1) * Snapshot.perPart (.column head l))
      have hhead : (if number = 1 then headBytes head else []).length ≤ 41 := by
        split <;> simp [headBytes_length]
      simp only [List.length_append, Snapshot.perPart] at hlen hhead ⊢
      omega
    | holds l =>
      have hlen := entries_length_le (n := 15) (s := .holds l)
        (by simp [Snapshot.entryBytes, holdBytes_length]) ((number - 1) * Snapshot.perPart (.holds l))
      simp only [List.nil_append, Snapshot.perPart] at hlen ⊢
      omega
    | peers l =>
      have hlen := entries_length_le (n := 51) (s := .peers l)
        (fun x hx => by obtain ⟨e, _, rfl⟩ := List.mem_map.mp hx; exact Nat.le_of_eq (peerBytes_length _ _))
        ((number - 1) * Snapshot.perPart (.peers l))
      simp only [List.nil_append, Snapshot.perPart] at hlen ⊢
      omega
    | reservations l =>
      have hlen := entries_length_le (n := 10) (s := .reservations l)
        (by simp [Snapshot.entryBytes, reservationBytes_length]) ((number - 1) * Snapshot.perPart (.reservations l))
      simp only [List.nil_append, Snapshot.perPart] at hlen ⊢
      omega
  simp only [AnswerBody.Fits, AnswerBody.bytes, List.length_append, nat1_length]
  omega

theorem statusItem_length (i : StatusItem) : i.bytes.length = 4 + i.value.length := by
  simp only [StatusItem.bytes, List.length_append, nat1_length]

theorem group_length (g : StatusGroup) : (g.flatMap StatusItem.bytes).length = groupLength g := by
  simp only [List.length_flatMap, groupLength, statusItem_length]

theorem fillAnswer_length (groups : List StatusGroup) (space : Nat) :
    ((fillAnswer groups space).flatMap StatusItem.bytes).length ≤ space := by
  induction groups, space using fillAnswer.induct with
  | case1 => simp [fillAnswer]
  | case2 last space hfits =>
    have hclose : closingItem.bytes.length = 4 := rfl
    simp only [fillAnswer, if_pos hfits, List.flatMap_append, List.length_append, group_length,
      List.flatMap_singleton, hclose]
    exact hfits
  | case3 last space hfull => simp [fillAnswer, hfull]
  | case4 g rest space hne hfits ih =>
    rw [fillAnswer, if_pos hfits]
    · rw [List.flatMap_append, List.length_append, group_length g]
      omega
    · exact hne
  | case5 g rest space hne hfull =>
    rw [fillAnswer, if_neg hfull]
    · simp
    · exact hne

theorem statusAnswer_fits (start : Nat × Nat) (s : State) : (s.statusAnswer start).Fits := by
  unfold State.statusAnswer
  split
  · exact fillAnswer_length _ _
  · exact Nat.le_add_left 1 249

@[simp] theorem accepted_fits : AnswerBody.accepted.Fits := Nat.zero_le _
@[simp] theorem busy_fits : AnswerBody.busy.Fits := Nat.zero_le _
@[simp] theorem refused_fits (c : RefusalCause) : (AnswerBody.refused c).Fits := Nat.le_add_left 1 249
@[simp] theorem acceptedCauses_fits (c : Causes) : (AnswerBody.acceptedCauses c).Fits := Nat.le_add_left 1 249
@[simp] theorem acceptedEvents_fits (p : BitVec 12) : (AnswerBody.acceptedEvents p).Fits := Nat.le_add_left 2 248
@[simp] theorem refusedCauses_fits (c : Causes) : (AnswerBody.refusedCauses c).Fits := Nat.le_add_left 2 248
@[simp] theorem refusedProfile_fits (r : ProfileReason) : (AnswerBody.refusedProfile r).Fits := Nat.le_add_left 2 248
@[simp] theorem events_fits (p e : BitVec 12) : (AnswerBody.events p e).Fits := Nat.le_add_left 4 246
@[simp] theorem endOfReport_fits (s : Snapshot) (parts : Nat) : (AnswerBody.endOfReport s parts).Fits :=
  Nat.le_add_left 3 247

/-! ## The panel port -/

theorem setPort_quiet {p : Port} {s : State} (hbuffer : p.buffer = s.port.buffer)
    (hanswer : s.AnswerFits → ∀ a ∈ p.answer, a.bytes.length ≤ 255) : Quiet s (s.setPort p) :=
  ⟨⟨⟨rfl, rfl, rfl, id, id, fun h => ⟨by rw [State.setPort_port, hbuffer]; exact h.1, h.2⟩, hanswer,
    id, id, id⟩, rfl, rfl, id, fun _ => id⟩, fun _ => id⟩

theorem giveAnswer_quiet (code : Nat) {b : AnswerBody} (hb : b.Fits) (s : State) : Quiet s (s.giveAnswer code b) := by
  refine setPort_quiet rfl fun _ a ha => ?_
  cases ha
  rw [answer_length]
  exact Nat.add_le_add_right hb 5

theorem firstFailing_none {tests : List (Bool × AnswerBody)} (h : firstFailing tests = none) :
    ∀ t ∈ tests, t.1 = true := by
  induction tests with
  | nil => exact fun _ ht => nomatch ht
  | cons t rest ih =>
    unfold firstFailing at h
    split at h
    next hpass =>
      rw [List.forall_mem_cons]
      exact ⟨hpass, ih h⟩
    next => cases h

theorem firstFailing_mem {tests : List (Bool × AnswerBody)} {a : AnswerBody} (h : firstFailing tests = some a) :
    ∃ t ∈ tests, t.2 = a := by
  induction tests with
  | nil => cases h
  | cons t rest ih =>
    unfold firstFailing at h
    split at h
    next =>
      obtain ⟨x, hx, he⟩ := ih h
      exact ⟨x, by simp [hx], he⟩
    next => exact ⟨t, by simp, Option.some.inj h⟩

/-- A request keeps what its effect keeps where every test passes. -/
theorem request_kept {code : Nat} {tests : List (Bool × AnswerBody)} {body : AnswerBody} {effect : State → State}
    {s : State} (hb : body.Fits) (ht : ∀ t ∈ tests, t.2.Fits)
    (he : (∀ t ∈ tests, t.1 = true) → Kept s (effect s)) : Kept s (s.request code tests body effect) := by
  unfold State.request
  split
  · exact .refl s
  · split
    · exact (giveAnswer_quiet _ busy_fits s).kept
    · unfold State.accept
      split
      next answer hfail =>
        obtain ⟨t, hmem, rfl⟩ := firstFailing_mem hfail
        exact (giveAnswer_quiet _ (ht t hmem) s).kept
      next hpass =>
        exact (he (firstFailing_none hpass)).trans
          ((inform_quiet _ s).trans (giveAnswer_quiet _ hb _)).kept

theorem setStore_quiet {x : Store} {s : State} (h : s.BuffersKept → x.image.wf = true ∧ ∀ c ∈ x.image, c.1 < 512) :
    Quiet s (s.setStore x) :=
  ⟨⟨⟨rfl, rfl, rfl, id, id, fun hk => ⟨hk.1, h hk⟩, id, id, id, id⟩, rfl, rfl, id, fun _ => id⟩, fun _ => id⟩

theorem setMode_quiet {m : Mode} (hm : m ≠ .starting) (s : State) : Quiet s (s.setMode m) :=
  ⟨⟨⟨rfl, rfl, rfl, fun _ => hm, id, id, id, id, id, id⟩, rfl, rfl, id, fun _ => id⟩, fun _ => id⟩

/-! ## Tipping -/

theorem requestTip_kept (cls : Nat) (m : Moisture) {s : State} (hrole : s.straps.role = .tip)
    (hfree : ¬s.TipForbidden) (hparked : s.breaker.state = .parked) : Kept s (s.requestTip cls m) := by
  have hover := handOver_calm (.offer cls (s.prof.classVolume cls) m) (s.setStage (.requested (s.requestedLoad cls m)))
  have hset : Sound s (s.setStage (.requested (s.requestedLoad cls m))) :=
    ⟨rfl, rfl, rfl, id, id, id, id, id, id, id⟩
  have hsound := hset.trans hover.toSound
  have hstate : (s.requestTip cls m).breaker.state = .parked := hover.breaker.trans hparked
  refine ⟨hsound, fun hd => absurd (hrole.symm.trans hd) nofun, fun hk => ?_, fun _ _ => ?_, fun _ hd => ?_⟩
  · simp only [State.HoldsKept, State.requestTip, hover.holds]
    exact hk
  · exact ⟨fun hf => absurd (hover.tipForbidden.mp hf) hfree, fun _ => hstate,
      fun _ => workToken_none_of_parked hstate⟩
  · exact absurd (hrole.symm.trans (hsound.role.symm.trans hd)) nofun

theorem truckArrives_quiet {s : State} (hrole : s.straps.role = .tip) : Quiet s s.truckArrives := by
  refine Calm.quiet_of_role ?_ hrole
  unfold State.truckArrives
  split
  · exact enterTipping_calm _ s
  next load _ =>
    refine (enterTipping_calm { load with unauthorised := true, estimated := false } s).trans ?_
    unfold State.overtakeOffer
    split
    · exact (removeOffer_quiet _).toCalm
    · exact (setOpenReads_quiet _ _).toCalm.trans (handOver_calm _ _)
  · exact enterTipping_calm _ s
  · exact .refl s
  · exact (countLoad_calm _ s).trans (enterTipping_calm _ _)

theorem truckLeaves_quiet (s : State) : Quiet s s.truckLeaves := by
  unfold State.truckLeaves
  split
  next h => exact setTip_quiet nofun (by rw [h]; exact nofun)
  all_goals exact .refl s

theorem offerRunsOut_quiet (s : State) : Quiet s s.offerRunsOut := by
  unfold State.offerRunsOut
  split
  · split
    · exact withdrawTip_quiet _ s
    · exact .refl s
  all_goals exact .refl s

theorem settleRunsOut_quiet (s : State) : Quiet s s.settleRunsOut := by
  unfold State.settleRunsOut
  split
  next h =>
    split
    · exact (countLoad_calm _ s).quiet_of_stage (by rw [h]; exact nofun)
    · exact .refl s
  all_goals exact .refl s

/-! ## Breaking -/

theorem grantWork_kept {s : State} (hfree : ¬s.WorkForbidden) : Kept s s.grantWork :=
  informBreakerOut_kept (b := { s.breaker with state := .working false, renewal := s.renewalTimer })
    (mark_quiet .breakerChange _) fun hf => absurd hf hfree

theorem keepWorking_kept (token : Bool) {s : State} (hw : s.workToken ≠ none) : Kept s (s.keepWorking token) := by
  refine ⟨setBreaker_sound _ s, fun _ => id, id, fun hk hr => ?_, id⟩
  obtain ⟨hforbid, hopen, hwork⟩ := hk hr
  refine ⟨hforbid, fun ho => ?_, fun hf => absurd (hwork hf) hw⟩
  exact absurd (workToken_none_of_parked (hopen ho)) hw

theorem boomParks_kept (s : State) : Kept s s.boomParks := by
  unfold State.boomParks
  split
  · exact (parkBreaker_rests s).kept
  · exact (parkBreaker_rests s).kept
  all_goals exact .refl s

theorem boomLeaves_kept (s : State) : Kept s s.boomLeaves := by
  unfold State.boomLeaves
  split
  · exact informBreakerOut_kept
      (b := { s.breaker with state := .fault .parkLost, renewal := Timer.stopped, returning := Timer.stopped })
      ((mark_quiet .breakerChange _).trans (mark_quiet .fault _)) fun _ => nofun
  all_goals exact .refl s

theorem workLapses_kept (s : State) : Kept s s.workLapses := by
  unfold State.workLapses
  split
  · exact (endBreakerWork_rests _ s).kept
  · exact .refl s

theorem returnRunsOut_kept (s : State) : Kept s s.returnRunsOut := by
  unfold State.returnRunsOut
  split
  next h =>
    split
    · exact (enterBreaker_rests (b := .fault .notParked) nofun (.inr (by rw [h]; exact nofun))).kept
    · exact .refl s
  all_goals exact .refl s

/-! ## Drawing -/

theorem grantDraw_kept (g : Gate) (m : DrawMode) {s : State} (hfree : s.holds = []) : Kept s (s.grantDraw g m) := by
  have hgates (x : PerGate GateSeq) : Kept s (s.setGates x) :=
    ⟨⟨rfl, rfl, rfl, id, id, id, id, id, id, id⟩, fun _ => id, id, fun hk => hk, fun _ _ hh => absurd hfree hh⟩
  unfold State.grantDraw
  dsimp only
  split
  · exact hgates _
  · exact hgates _

theorem limitConflict_kept (g : Gate) (s : State) : Kept s (s.limitConflict g) := by
  unfold State.limitConflict
  split
  · exact .refl s
  · exact enterFault_kept _ g s

theorem closedLimitComes_kept (g : Gate) (s : State) : Kept s (s.closedLimitComes g) := by
  unfold State.closedLimitComes
  split
  · exact limitConflict_kept g s
  · split
    · exact (enterClosed_quiet g s).kept
    · exact .refl s

theorem closedLimitGoes_kept (g : Gate) (s : State) : Kept s (s.closedLimitGoes g) := by
  unfold State.closedLimitGoes
  split
  · exact enterFault_kept _ g s
  · exact enterFault_kept _ g s
  all_goals exact .refl s

theorem enterOpen_quiet {g : Gate} {s : State} (h : (s.gate g).state = .opening) : Quiet s (s.enterOpen g) := by
  refine Quiet.trans (Quiet.trans (updateGate_quiet_at fun _ => ?_) (setWindow_quiet g _ _)) (endDrawIf_quiet _ g _)
  rw [h]; rfl

theorem openLimitComes_kept (g : Gate) (s : State) : Kept s (s.openLimitComes g) := by
  unfold State.openLimitComes
  split
  · exact limitConflict_kept g s
  · split
    next h => exact (enterOpen_quiet h).kept
    next => exact .refl s

theorem pulseToGate_quiet (g : Gate) (s : State) : Quiet s (s.pulseToGate g) := by
  unfold State.pulseToGate
  split
  · refine Quiet.trans (updateGate_quiet (f := GateSeq.addMass s.prof.weigherQuantum) (fun _ h => h) g s) ?_
    unfold State.countWindow
    split
    · exact setWindow_quiet g _ _
    · exact .refl _
  · have hdribble : Quiet s ((s.setDrawn { s.drawn with dribble := true }).updateGate g
        (fun q => { q with dribble := { q.dribble with raised := true } })) := by
      refine (setDrawn_quiet _ s).trans (updateGate_quiet ?_ g _)
      exact fun _ h => h
    unfold State.dribblePulse
    dsimp only
    split
    · exact hdribble
    · exact hdribble.trans (modelEvent_quiet _ _)

theorem pulse_quiet (g : Gate) (s : State) : Quiet s (s.pulse g) := by
  refine Quiet.trans (Quiet.trans (Quiet.trans ?_ (endDrawIf_quiet _ _ _)) (endDrawIf_quiet _ _ _))
    (formDrawnAtQuantum_quiet _)
  exact (((setDrawn_quiet _ s).trans (pulseToGate_quiet g _)).trans (drawIncrement_quiet _ _)).trans
    (noteWet_quiet _ s)

theorem warningRunsOut_quiet (g : Gate) (s : State) : Quiet s (s.warningRunsOut g) := by
  unfold State.warningRunsOut
  split
  next h => exact updateGate_quiet_at fun _ => by rw [h.1]; rfl
  next => exact .refl s

theorem strokeRunsOut_kept (g : Gate) (s : State) : Kept s (s.strokeRunsOut g) := by
  unfold State.strokeRunsOut
  split
  · split
    · exact enterFault_kept _ g s
    · exact .refl s
  · split
    · exact enterFault_kept _ g s
    · exact .refl s
  all_goals exact .refl s

theorem drawLapses_quiet (g : Gate) (s : State) : Quiet s (s.drawLapses g) := by
  unfold State.drawLapses
  split
  · exact endDraw_quiet _ g s
  · exact .refl s

theorem windowRunsOut_kept (g : Gate) (s : State) : Kept s (s.windowRunsOut g) := by
  unfold State.windowRunsOut
  split
  · split
    · exact (endDraw_quiet _ g s).kept.trans (raiseStarved_kept g _)
    · exact (setWindow_quiet g _ s).kept
  · exact .refl s

/-! ## Holds and the stop loop -/

theorem closeWindow_quiet (s : State) : Quiet s s.closeWindow := by
  unfold State.closeWindow
  split
  · exact setPort_quiet rfl id
  · exact .refl s

theorem releaseHalt_kept (s : State) : Kept s s.releaseHalt := by
  unfold State.releaseHalt
  split
  · exact (closeWindow_quiet s).kept.trans (removeHold_kept _ _ _)
  next h =>
    refine (closeWindow_quiet s).kept.trans (enterHold_kept _ ?_ _)
    simpa [HoldBody.hasCause] using h

theorem loopOpens_kept (s : State) : Kept s s.loopOpens := by
  unfold State.loopOpens
  split
  · exact addOwnCause_kept rfl s
  · split
    · exact tipLoopOpens_kept s
    · exact drawLoopOpens_kept s

/-! ## Arrivals -/

theorem heard_quiet (station seq : Nat) (s : State) : Quiet s (s.heard station seq) :=
  ((count_quiet _ s).trans (setPeers_quiet _ _)).trans (markIf_quiet _ _ _)

theorem lineEvent_quiet (r : LineReason) (s : State) : Quiet s (s.lineEvent r) := by
  refine Quiet.trans ?_ (mark_quiet _ _)
  exact setLine_quiet id id

theorem ownNumberFrame_kept (s : State) : Kept s s.ownNumberFrame := by
  have hcount := count_quiet (fun c => { c with ownNumber := bump16 c.ownNumber }) s
  unfold State.ownNumberFrame
  dsimp only
  split
  · exact hcount.kept.trans (addOwnCause_kept rfl _)
  · exact (hcount.trans (lineEvent_quiet _ _)).kept.trans (addOwnCause_kept rfl _)

theorem strangerFrame_quiet (s : State) : Quiet s s.strangerFrame := by
  have hcount := count_quiet (fun c => { c with strangers := bump16 c.strangers }) s
  unfold State.strangerFrame
  dsimp only
  split
  · exact hcount
  · refine Quiet.trans (hcount.trans ?_) (lineEvent_quiet _ _)
    exact setLine_quiet id id

theorem received_kept {suits : Option Role → Bool} {table blocks : Nat → State → State}
    (ht : ∀ n t, Quiet t (table n t)) (hb : ∀ n t, Kept t (blocks n t)) (h : Header) (s : State) :
    Kept s (s.received h suits table blocks) := by
  unfold State.received
  split
  · exact .refl s
  · split
    · exact ownNumberFrame_kept s
    · split
      · have hheard := heard_quiet h.station.toNat h.seq.toNat s
        dsimp only
        split
        · split
          · exact (hheard.trans (ht _ _)).kept
          · exact (hheard.trans (ht _ _)).kept.trans (hb _ _)
        · exact (hheard.trans (count_quiet _ _)).kept
      · exact (strangerFrame_quiet s).kept

theorem ownArrival_kept {act : Frame → State → State} (ha : ∀ f t, Kept t (act f t)) (k : FrameKind) (s : State) :
    Kept s (s.ownArrival k act) := by
  unfold State.ownArrival
  split
  · split
    · exact (arrived_quiet s).kept.trans (ha _ _)
    · exact .refl s
  · exact .refl s

/-- An arrival of any kind, from what its blocks keep. -/
theorem arrival_kept {α : Type} {k : FrameKind} {act : Frame → State → State} {suits : Option Role → Bool}
    {table blocks : α → Nat → State → State} (ha : ∀ f t, Kept t (act f t)) (ht : ∀ p n t, Quiet t (table p n t))
    (hb : ∀ p n t, Kept t (blocks p n t)) (f : Inbound α) (s : State) :
    Kept s (s.arrival f k act suits table blocks) := by
  cases f with
  | own => exact ownArrival_kept ha k s
  | received h p => exact received_kept (ht p) (hb p) h s

theorem holdBodyOf_hasCause (p : HoldSetPayload) (body : HoldBody) (h : holdBodyOf p = some body) :
    body.hasCause = true := by
  cases p with
  | len1 kind =>
    simp only [holdBodyOf] at h
    split at h <;> cases h
    rfl
  | len2 kind causes =>
    simp only [holdBodyOf] at h
    split at h <;> cases h
    next hc => simp [HoldBody.hasCause, hc.2]
  | len3 kind source gate =>
    simp only [holdBodyOf] at h
    split at h
    · obtain ⟨g, _, rfl⟩ := Option.map_eq_some_iff.mp h
      rfl
    · cases h
  | len8 kind source gap surface =>
    simp only [holdBodyOf] at h
    split at h <;> cases h
    rfl

theorem takeHoldSet_kept (p : HoldSetPayload) (station : Nat) (s : State) : Kept s (takeHoldSet p station s) := by
  unfold takeHoldSet
  split
  next body h => exact enterHold_kept station (holdBodyOf_hasCause p body h) s
  next => exact .refl s

theorem takeHoldLift_kept (kind : Byte) (station : Nat) (s : State) : Kept s (takeHoldLift kind station s) := by
  unfold takeHoldLift
  split
  · exact removeHold_kept station _ s
  · exact .refl s

theorem takeOwnOffer_kept (f : Frame) (s : State) : Kept s (takeOwnOffer f s) := by
  unfold takeOwnOffer
  split
  · exact ((judgeOffer_quiet _ _ _ s).trans (ownOfferJudged_quiet _)).kept
  all_goals exact .refl s

theorem takeOwnTipped_kept (f : Frame) (s : State) : Kept s (takeOwnTipped f s) := by
  unfold takeOwnTipped
  split
  · exact ((addLayers_quiet _ s).trans (dropReservation_quiet _ _)).kept
  all_goals exact .refl s

theorem takeOwnSurface_kept (f : Frame) (s : State) : Kept s (takeOwnSurface f s) := by
  unfold takeOwnSurface
  split
  · exact takeSurface_kept _ _ _ s
  all_goals exact .refl s

theorem updatePeer_quiet (station : Nat) (f : PeerRecord → PeerRecord) (s : State) : Quiet s (s.updatePeer station f) :=
  setPeers_quiet _ s

theorem takeTipped_quiet (p : TippedPayload) (station : Nat) (s : State) : Quiet s (s.takeTipped p station) :=
  ((updatePeer_quiet _ _ s).trans (addLayers_quiet _ _)).trans (dropReservation_quiet _ _)

theorem takeDrawn_quiet (p : DrawnPayload) (station : Nat) (s : State) : Quiet s (s.takeDrawn p station) :=
  ((updatePeer_quiet _ _ s).trans (updatePeer_quiet _ _ _)).trans (drawIncrement_quiet _ _)

theorem takePeerSurface_kept (p : SurfacePayload) (station : Nat) (s : State) : Kept s (s.takePeerSurface p station) := by
  unfold State.takePeerSurface
  split
  · exact .refl s
  · split
    · exact .refl s
    · exact takeSurface_kept _ _ _ s

theorem takePeerState_quiet (p : StatePayload) (station : Nat) (s : State) : Quiet s (s.takePeerState p station) :=
  (updatePeer_quiet _ _ s).trans (markIf_quiet _ _ _)

theorem columnFromState_quiet (p : StatePayload) (station rise : Nat) (s : State) :
    Quiet s (s.columnFromState p station rise) := by
  unfold State.columnFromState
  split
  · exact seedState_quiet _ _ s
  · split
    · exact addLayers_quiet _ s
    · exact drawIncrement_quiet _ s
    · exact .refl s

theorem stateReservation_inRange (p : StatePayload) (x : Nat × Nat) (h : stateReservation p = some x) :
    loadInRange x.1 x.2 = true := by
  unfold stateReservation at h
  split at h <;> cases h
  assumption

theorem reservationFromState_quiet (p : StatePayload) (station : Nat) (s : State) :
    Quiet s (s.reservationFromState p station) := by
  unfold State.reservationFromState
  split
  · exact reconcileReservation_quiet station s (stateReservation_inRange p)
  · exact .refl s

theorem endRollCall_quiet (s : State) : Quiet s s.endRollCall :=
  (setPeers_quiet _ s).trans (setMode_quiet (m := .ready) nofun _)

theorem rollCallAnswered_quiet (s : State) : Quiet s s.rollCallAnswered := by
  unfold State.rollCallAnswered
  split
  · exact endRollCall_quiet s
  · exact .refl s

theorem takeState_kept (p : StatePayload) (station : Nat) (s : State) : Kept s (s.takeState p station) := by
  have hcolumn := ((updatePeer_quiet station (fun r => { r with baseline := some ⟨p.generation.toNat,
    (counterRise (s.baseOf station p.generation.toNat) p.counter.toNat).2⟩ }) s).trans
    (columnFromState_quiet p station (counterRise (s.baseOf station p.generation.toNat) p.counter.toNat).1 _)).trans
    (noteWet_quiet _ s)
  exact (hcolumn.kept.trans (reconcileHolds_kept station p _)).trans
    ((reservationFromState_quiet p station _).trans (rollCallAnswered_quiet _)).kept

/-! ## Field edges and timers -/

theorem takeEdge_quiet (i : InputNo) (active : Bool) (s : State) : Quiet s (s.takeEdge i active) :=
  (setField_quiet _ s).trans (setField_quiet _ _)

theorem edge_kept {fn : InputFunction} {i : InputNo} {active : Bool} {act : State → State} {s : State}
    (h : inputFunction s.straps.role i = fn → Kept (s.takeEdge i active) (act (s.takeEdge i active))) :
    Kept s (s.edge fn i active act) := by
  unfold State.edge
  split
  next hc => exact (takeEdge_quiet i active s).kept.trans (h hc.1)
  next => exact .refl s

theorem whenLive_kept {act : State → State} {s : State} (h : Kept s (act s)) : Kept s (s.whenLive act) := by
  unfold State.whenLive
  split
  · exact h
  · exact .refl s

theorem silenceRunsOut_quiet (station : Nat) (s : State) : Quiet s (s.silenceRunsOut station) := by
  unfold State.silenceRunsOut
  split
  · exact (updatePeer_quiet _ _ s).trans (mark_quiet _ _)
  · exact .refl s

theorem rollCallRunsOut_quiet (s : State) : Quiet s s.rollCallRunsOut := by
  unfold State.rollCallRunsOut
  split
  · exact ((setPeers_quiet _ s).trans (endRollCall_quiet _)).trans (markIf_quiet _ _ _)
  · exact .refl s

theorem handOver_state_quiet (s : State) : Quiet s (s.handOver (.state none)) :=
  handOver_quiet fun _ => untipped_of_kind (.inr (.inr (.inr (.inr rfl))))

theorem stateRunsOut_quiet (s : State) : Quiet s s.stateRunsOut := by
  unfold State.stateRunsOut
  split
  · exact (setPeers_quiet _ s).trans (handOver_state_quiet _)
  · exact .refl s

theorem retryRunsOut_quiet (s : State) : Quiet s s.retryRunsOut := by
  unfold State.retryRunsOut
  split
  · exact setLine_quiet id id
  · exact .refl s

theorem pace_kept (depth quality : Nat) (s : State) : Kept s (s.pace depth quality) := by
  unfold State.pace
  split
  · exact (setField_quiet _ s).kept
  · exact (setField_quiet _ s).kept.trans (handOverSurface_kept _ _ _)

theorem takeRecord_kept (distance quality : Nat) (s : State) : Kept s (s.takeRecord distance quality) := by
  unfold State.takeRecord
  split
  · exact (setField_quiet _ s).kept
  · split
    · exact ((setField_quiet _ s).trans (setField_quiet _ _)).kept
    · split
      · exact ((setField_quiet _ s).trans (setField_quiet _ _)).kept
      · exact ((setField_quiet _ s).trans (setField_quiet _ _)).kept.trans (pace_kept _ _ _)

theorem rangingInput_kept (r : RangingRecord) (s : State) : Kept s (s.rangingInput r) := by
  cases r with
  | malformed => exact (setField_quiet _ s).kept
  | record distance quality => exact takeRecord_kept _ _ s

theorem pacingRunsOut_kept (s : State) : Kept s s.pacingRunsOut := by
  unfold State.pacingRunsOut
  split
  · split
    · exact (setField_quiet _ s).kept.trans (handOverSurface_kept _ _ _)
    · exact (setField_quiet _ s).kept
  · exact .refl s

/-! ## The store and the load buffer -/

theorem writeAll_bounded {m : Memory} {n : Nat} (h : ∀ c ∈ m, c.1 < n) {a : Nat} {bs : List Byte}
    (ha : a + bs.length ≤ n) : ∀ c ∈ m.writeAll a bs, c.1 < n := by
  induction bs generalizing m a with
  | nil => exact h
  | cons b bs ih =>
    simp only [List.length_cons] at ha
    exact ih (write_bounded h (by omega) b) (by omega)

theorem loadSlice_quiet {offset : Word16} {bytes : List Byte} (h : offset.toNat + bytes.length ≤ 512) (s : State) :
    Quiet s (s.loadSlice offset bytes) :=
  ⟨⟨⟨rfl, rfl, rfl, id, id, fun hk => ⟨⟨writeAll_wf hk.1.1 _ _, writeAll_bounded hk.1.2 h⟩, hk.2⟩, id, id, id, id⟩,
    rfl, rfl, id, fun _ => id⟩, fun _ => id⟩

theorem endWrite_quiet (took : Bool) (s : State) : Quiet s (s.endWrite took) := by
  unfold State.endWrite
  split
  · refine Quiet.trans ?_ (mark_quiet _ _)
    split
    · exact setStore_quiet fun hk => hk.1
    · exact setStore_quiet fun hk => hk.2
  · exact .refl s

theorem malformedMessage_quiet (s : State) : Quiet s s.malformedMessage := by
  unfold State.malformedMessage
  split
  · exact .refl s
  · exact setPort_quiet rfl fun _ a ha => nomatch ha

theorem tick_quiet (s : State) : Quiet s s.tick :=
  ⟨⟨⟨rfl, rfl, rfl, id, id, id, id, id, id, id⟩, rfl, rfl, id, fun g => by cases g <;> exact id⟩, fun _ => id⟩

end Sys2Proof.Machine
end

section
/-! Every command from every state: what it keeps, from what its operations keep; and what STARTING keeps asleep. -/

namespace Sys2Proof.Machine

/-! ## Every command but the restarts -/

/-- The commands that begin or end STARTING, or give the blocks their restart states. -/
def startsBlocks : Instr → Bool
  | .inputFirstConditioned .. | .inputFirstStateForced .. | .coldRestart _ | .warmRestart _ | .leaveStarting => true
  | _ => false

/-- An event keeps what its blocks keep. -/
theorem event_kept {act : State → State} {s : State} (h : Kept s (act s)) : ∃ t, event act s = .next t ∧ Kept s t :=
  ⟨_, rfl, h.trans (inform_quiet _ s).kept⟩

theorem edge_event_kept {fn : InputFunction} {i : InputNo} {active : Bool} {act : State → State}
    (h : ∀ t, Kept t (act t)) (s : State) : ∃ t, event (State.edge fn i active act) s = .next t ∧ Kept s t :=
  event_kept (edge_kept fun _ => h _)

theorem truck_edge_kept {active : Bool} {act : State → State}
    (h : ∀ t, t.straps.role = .tip → Quiet t (act t)) (s : State) :
    ∃ t, event (State.edge .truckPresent truckInput active (State.whenLive act)) s = .next t ∧ Kept s t := by
  refine event_kept (edge_kept fun hfn => whenLive_kept (h _ ?_).kept)
  cases hrole : s.straps.role with
  | tip => exact hrole
  | draw => rw [hrole] at hfn; cases hfn

theorem not_holds_of_test {kind : HoldKind} {s : State} (h : (!s.anyHold kind) = true) : ¬s.Holds kind :=
  (noHold_iff kind s).mp h

theorem not_tipForbidden {s : State} (hhalt : ¬s.Holds .halt) (hentry : ¬s.HoldsOwn .entry)
    (hhangup : ¬s.Holds .hangup) : ¬s.TipForbidden := by
  rintro ⟨h, hh, hk | hk | hk⟩
  · exact hhalt ⟨h, hh, hk⟩
  · exact hhangup ⟨h, hh, hk⟩
  · exact hentry ⟨h, hh, hk⟩

theorem not_workForbidden {s : State} (hhalt : ¬s.Holds .halt) (hentry : ¬s.HoldsOwn .entry) : ¬s.WorkForbidden := by
  rintro ⟨h, hh, hk | hk⟩
  · exact hhalt ⟨h, hh, hk⟩
  · exact hentry ⟨h, hh, hk⟩

theorem holds_nil {s : State} (hhalt : ¬s.Holds .halt) (hentry : ¬s.Holds .entry) (hhangup : ¬s.Holds .hangup) :
    s.holds = [] := by
  refine List.eq_nil_iff_forall_not_mem.mpr fun h hh => ?_
  cases hk : h.body.kind with
  | halt => exact hhalt ⟨h, hh, hk⟩
  | entry => exact hentry ⟨h, hh, hk⟩
  | hangup => exact hhangup ⟨h, hh, hk⟩

theorem execTip_kept (cls moisture : Byte) (s : State) : ∃ t, exec (.tip cls moisture) s = .next t ∧ Kept s t := by
  refine ⟨_, rfl, request_kept accepted_fits (by simp [State.tipTests, State.testTipRole, State.testReady,
    State.testNoHalt, State.testNoOwnEntry, State.testNoHangup, State.testSeeded, State.testActiveLine]) fun h => ?_⟩
  simp only [State.tipTests, List.forall_mem_cons] at h
  obtain ⟨hrole, _, _, hhalt, hentry, hhangup, _, _, _, hparked, _⟩ := h
  exact requestTip_kept _ _ (eq_of_beq hrole)
    (not_tipForbidden (not_holds_of_test hhalt) ((noOwnHold_iff _ s).mp hentry) (not_holds_of_test hhangup))
    (eq_of_beq hparked)

theorem execBreakWork_kept (s : State) : ∃ t, exec .breakWork s = .next t ∧ Kept s t := by
  refine ⟨_, rfl, request_kept accepted_fits (by simp [State.breakTests, State.testTipRole, State.testReady,
    State.testNoHalt, State.testNoOwnEntry]) fun h => ?_⟩
  simp only [State.breakTests, List.forall_mem_cons] at h
  obtain ⟨_, _, hhalt, hentry, _⟩ := h
  exact grantWork_kept (not_workForbidden (not_holds_of_test hhalt) ((noOwnHold_iff _ s).mp hentry))

theorem execBreakRenew_kept (token : Byte) (s : State) : ∃ t, exec (.breakRenew token) s = .next t ∧ Kept s t := by
  refine ⟨_, rfl, request_kept accepted_fits (by simp [State.breakRenewTests, State.testTipRole]) fun h => ?_⟩
  simp only [State.breakRenewTests, List.forall_mem_cons] at h
  obtain ⟨_, _, hworking, _⟩ := h
  exact keepWorking_kept _ (Option.isSome_iff_ne_none.mp hworking)

theorem execDraw_kept (gate mode : Byte) (target : Option Word16) (s : State) :
    ∃ t, exec (.draw gate mode target) s = .next t ∧ Kept s t := by
  refine ⟨_, rfl, request_kept accepted_fits (by simp [State.drawTests, State.gateDrawTests, State.testDrawRole,
    State.testReady, State.testNoHalt, State.testNoEntry, State.testNoHangup, State.testSeeded,
    State.testActiveLine]) fun h => ?_⟩
  simp only [State.drawTests, List.cons_append, List.forall_mem_cons] at h
  obtain ⟨_, _, _, hhalt, hentry, hhangup, _⟩ := h
  exact grantDraw_kept _ _
    (holds_nil (not_holds_of_test hhalt) (not_holds_of_test hentry) (not_holds_of_test hhangup))

theorem execProfileLoad_kept (offset : Word16) (bytes : List Byte) (s : State) :
    ∃ t, exec (.profileLoad offset bytes) s = .next t ∧ Kept s t := by
  refine ⟨_, rfl, ?_⟩
  split
  · refine request_kept accepted_fits (by simp [State.profileLoadTests, State.testWindow,
      State.testNotWriting]) fun h => ?_
    simp only [State.profileLoadTests, List.forall_mem_cons] at h
    obtain ⟨_, hfits, _⟩ := h
    exact (loadSlice_quiet (of_decide_eq_true hfits) s).kept
  · exact (malformedMessage_quiet s).kept

/-- A request whose acceptance changes the port alone, buffer and answer standing. -/
theorem port_request_kept {code : Nat} {body : AnswerBody} {effect : State → State} {s : State} (hb : body.Fits)
    (he : Quiet s (effect s)) : Kept s (s.request code [] body effect) :=
  request_kept hb (fun _ ht => nomatch ht) fun _ => he.kept

theorem refused_request_kept {code : Nat} (c : RefusalCause) (effect : State → State) (s : State)
    (he : ∀ t, Quiet t (effect t)) : Kept s (s.request code [(false, .refused c)] .accepted effect) :=
  request_kept accepted_fits (by simp) fun _ => (he s).kept

theorem setReport_quiet (r : Option ReportBuffer) (s : State) : Quiet s (s.setReport r) := setPort_quiet rfl id

theorem execReport_kept (kind : Byte) (s : State) : ∃ t, exec (.report kind) s = .next t ∧ Kept s t := by
  refine ⟨_, rfl, ?_⟩
  split
  · exact port_request_kept (part_fits _ _ _) (setReport_quiet _ s)
  · exact refused_request_kept _ _ s Quiet.refl

theorem execReportNext_kept (s : State) : ∃ t, exec .reportNext s = .next t ∧ Kept s t := by
  refine ⟨_, rfl, ?_⟩
  split
  · split
    · exact port_request_kept (part_fits _ _ _) (setReport_quiet _ s)
    · exact port_request_kept (endOfReport_fits _ _) (setReport_quiet _ s)
  · exact refused_request_kept _ _ s Quiet.refl

theorem execUnknownRequest_kept (what : UnknownMessage) (s : State) :
    ∃ t, exec (.unknownRequest what) s = .next t ∧ Kept s t := by
  refine ⟨_, rfl, ?_⟩
  cases what with
  | code c =>
    simp only [State.unknownMessage, State.refuseUnknown]
    split
    · exact .refl s
    · exact (giveAnswer_quiet _ (refused_fits _) s).kept
  | reportKind k => exact refused_request_kept _ _ s Quiet.refl

theorem renewDraw_quiet (g : Gate) (token : Bool) (s : State) : Quiet s (s.renewDraw g token) :=
  updateGate_quiet (f := fun q => { q with token := some token, renewal := s.renewalTimer }) (fun _ h => h) g s

theorem countPulse_quiet (g : Gate) (s : State) : Quiet s (s.countPulse g) := setField_quiet _ s

theorem beginWrite_quiet (s : State) : Quiet s s.beginWrite :=
  setStore_quiet (x := { s.store with write := .writing }) fun hk => hk.2

/-- Every command that leaves STARTING and the restart states alone keeps all invariants. -/
theorem exec_kept (c : Instr) (s : State) (h : startsBlocks c = false) : ∃ t, exec c s = .next t ∧ Kept s t := by
  cases c with
  | inputFirstConditioned | inputFirstStateForced | coldRestart | warmRestart | leaveStarting => cases h
  | tip cls moisture => exact execTip_kept cls moisture s
  | tipCancel =>
    exact ⟨_, rfl, request_kept accepted_fits (by simp [State.tipCancelTests, State.testTipRole, State.testLive])
      fun _ => (withdrawTip_quiet _ s).kept⟩
  | breakWork => exact execBreakWork_kept s
  | breakRenew token => exact execBreakRenew_kept token s
  | breakStop =>
    exact ⟨_, rfl, request_kept accepted_fits (by simp [State.breakStopTests, State.testTipRole])
      fun _ => (endBreakerWork_rests _ s).kept⟩
  | draw gate mode target => exact execDraw_kept gate mode target s
  | drawRenew gate token =>
    exact ⟨_, rfl, request_kept accepted_fits (by simp [State.drawRenewTests, State.testDrawRole])
      fun _ => (renewDraw_quiet _ _ s).kept⟩
  | drawStop gate =>
    exact ⟨_, rfl, request_kept accepted_fits (by simp [State.drawStopTests, State.testDrawRole])
      fun _ => (endDraw_quiet _ _ s).kept⟩
  | gateReset gate =>
    exact ⟨_, rfl, request_kept accepted_fits (by simp [State.gateResetTests, State.testDrawRole, State.testLive])
      fun _ => (updateGate_quiet_of_rest (f := fun q => { q with state := .closed }) (fun _ => rfl) _ s).kept⟩
  | halt =>
    exact ⟨_, rfl, request_kept accepted_fits (by simp [State.testLive]) fun _ => addOwnCause_kept rfl s⟩
  | haltRelease =>
    exact ⟨_, rfl, request_kept (acceptedCauses_fits _) (by simp [State.haltReleaseTests, State.testLive,
      State.testHeld]) fun _ => releaseHalt_kept s⟩
  | entry => exact ⟨_, rfl, request_kept accepted_fits (by simp [State.testLive]) fun _ => enterHold_kept _ rfl s⟩
  | entryRelease =>
    exact ⟨_, rfl, request_kept accepted_fits (by simp [State.testLive, State.testHeld])
      fun _ => removeHold_kept _ _ s⟩
  | hangupClear =>
    exact ⟨_, rfl, request_kept accepted_fits (by simp [State.testLive, State.testHeld])
      fun _ => liftHangup_kept s⟩
  | seed depth =>
    exact ⟨_, rfl, request_kept accepted_fits (by simp [State.testLive]) fun _ => handOverSurface_kept _ _ s⟩
  | status first =>
    refine ⟨_, rfl, ?_⟩
    split
    · exact .refl s
    · exact (giveAnswer_quiet _ (statusAnswer_fits _ s) s).kept
  | report kind => exact execReport_kept kind s
  | reportNext => exact execReportNext_kept s
  | events => exact ⟨_, rfl, port_request_kept (events_fits _ _) (.refl s)⟩
  | eventAck kinds => exact ⟨_, rfl, port_request_kept (acceptedEvents_fits _) (setPort_quiet rfl id)⟩
  | eventEnable kinds => exact ⟨_, rfl, port_request_kept accepted_fits (setPort_quiet rfl id)⟩
  | profileLoad offset bytes => exact execProfileLoad_kept offset bytes s
  | profileCommit =>
    exact ⟨_, rfl, request_kept accepted_fits (by simp [State.profileCommitTests, State.testWindow,
      State.testNotWriting]) fun _ => (beginWrite_quiet s).kept⟩
  | restart => exact ⟨_, rfl, port_request_kept accepted_fits (setPort_quiet rfl id)⟩
  | malformedMessage => exact ⟨_, rfl, (malformedMessage_quiet s).kept⟩
  | unknownRequest what => exact execUnknownRequest_kept what s
  | holdSetArrival f =>
    exact event_kept (arrival_kept (fun _ => Kept.refl) (fun _ _ => Quiet.refl) takeHoldSet_kept f s)
  | holdLiftArrival f =>
    exact event_kept (arrival_kept (fun _ => Kept.refl) (fun _ _ => Quiet.refl) takeHoldLift_kept f s)
  | offerArrival f =>
    exact event_kept (arrival_kept takeOwnOffer_kept (fun _ _ => Quiet.refl)
      (fun _ _ t => (judgeOffer_quiet _ _ _ t).kept) f s)
  | withdrawArrival f =>
    exact event_kept (arrival_kept (fun _ t => (dropReservation_quiet _ t).kept) (fun _ _ => Quiet.refl)
      (fun _ _ t => (dropReservation_quiet _ t).kept) f s)
  | tippedArrival f =>
    exact event_kept (arrival_kept takeOwnTipped_kept (fun _ _ => Quiet.refl)
      (fun p n t => (takeTipped_quiet p n t).kept) f s)
  | drawnArrival f =>
    exact event_kept (arrival_kept (fun _ => Kept.refl) (fun _ _ => Quiet.refl)
      (fun p n t => (takeDrawn_quiet p n t).kept) f s)
  | surfaceArrival f =>
    exact event_kept (arrival_kept takeOwnSurface_kept (fun _ _ => Quiet.refl) takePeerSurface_kept f s)
  | stateArrival f =>
    exact event_kept (arrival_kept (fun _ => Kept.refl) takePeerState_quiet takeState_kept f s)
  | undefinedKindArrival header kind =>
    exact event_kept (received_kept (fun _ t => count_quiet _ t) (fun _ => Kept.refl) header s)
  | receiveError e =>
    refine ⟨_, rfl, ?_⟩
    split
    · exact .refl s
    · exact (count_quiet _ s).kept
  | transmitAttemptStart => exact ⟨_, rfl, (startAttempt_quiet s).kept⟩
  | arbitrationLoss => exact event_kept (loseArbitration_quiet s).kept
  | transmitError => exact event_kept (failAttempt_kept _ s)
  | waitLimit =>
    refine event_kept ?_
    unfold State.waitRunsOut
    split
    · exact .refl s
    · exact failAttempt_kept _ s
  | isolationRetryExpiry => exact ⟨_, rfl, (retryRunsOut_quiet s).kept⟩
  | stopLoopOpens => exact edge_event_kept loopOpens_kept s
  | stopLoopCloses => exact edge_event_kept Kept.refl s
  | truckPresentActive => exact truck_edge_kept (fun _ => truckArrives_quiet) s
  | truckPresentInactive => exact truck_edge_kept (fun t _ => truckLeaves_quiet t) s
  | breakerParkActive => exact edge_event_kept boomParks_kept s
  | breakerParkInactive => exact edge_event_kept boomLeaves_kept s
  | closedLimitActive g => exact edge_event_kept (closedLimitComes_kept g) s
  | closedLimitInactive g => exact edge_event_kept (closedLimitGoes_kept g) s
  | openLimitActive g => exact edge_event_kept (openLimitComes_kept g) s
  | openLimitInactive g => exact edge_event_kept Kept.refl s
  | receiverReadyInactive g => exact edge_event_kept (fun t => whenLive_kept (endDraw_quiet _ g t).kept) s
  | receiverReadyActive g => exact edge_event_kept Kept.refl s
  | spareInputEdge input active => exact edge_event_kept Kept.refl s
  | weigherPulse g =>
    refine ⟨_, rfl, (countPulse_quiet g s).kept.trans ?_⟩
    split
    · exact whenLive_kept (pulse_quiet g _).kept
    · exact .refl _
  | rangingRecord r => exact event_kept (rangingInput_kept r s)
  | offerTimerExpiry => exact event_kept (offerRunsOut_quiet s).kept
  | settleTimerExpiry => exact event_kept (settleRunsOut_quiet s).kept
  | breakerRenewalExpiry => exact event_kept (workLapses_kept s)
  | returnTimerExpiry => exact event_kept (returnRunsOut_kept s)
  | warningTimerExpiry g => exact event_kept (warningRunsOut_quiet g s).kept
  | strokeTimerExpiry g => exact event_kept (strokeRunsOut_kept g s)
  | drawRenewalExpiry g => exact event_kept (drawLapses_quiet g s).kept
  | starvationWindowExpiry g => exact event_kept (windowRunsOut_kept g s)
  | wetRestExpiry => exact event_kept (setWatch_quiet _ s).kept
  | silenceTimerExpiry station => exact event_kept (silenceRunsOut_quiet _ s).kept
  | rollCallTimerExpiry => exact event_kept (rollCallRunsOut_quiet s).kept
  | stateTimerExpiry => exact event_kept (stateRunsOut_quiet s).kept
  | pacingTimerExpiry => exact event_kept (pacingRunsOut_kept s)
  | storeWriteEnd took => exact ⟨_, rfl, (endWrite_quiet took s).kept⟩

/-! ## First states and the departure -/

theorem restart_union_left {c : Causes} (d : Causes) (h : c.restart = true) : (c.union d).restart = true := by
  simp [Causes.union, h]

theorem startGates_quiet (s : State) : Quiet s s.startGates := by
  have hrest (g : Gate) : (s.restartGate g).state.drawing = false := by
    unfold State.restartGate GateSeq.restarted
    dsimp only
    split
    · split <;> rfl
    · split <;> rfl
  have hset : Quiet s (s.setGates ⟨s.restartGate .a, s.restartGate .b⟩) := by
    refine setGates_quiet fun g hg => ?_
    cases g with
    | a => rw [show (PerGate.mk (s.restartGate .a) (s.restartGate .b)).get .a = s.restartGate .a from rfl, hrest] at hg
           cases hg
    | b => rw [show (PerGate.mk (s.restartGate .a) (s.restartGate .b)).get .b = s.restartGate .b from rfl, hrest] at hg
           cases hg
  unfold State.startGates
  dsimp only
  split
  · exact hset.trans (setRestartCauses_quiet (restart_union_left _))
  · exact hset

theorem startBlocks_quiet (s : State) : Quiet s s.startBlocks := by
  have hsequencers : Quiet s s.startSequencers := by
    unfold State.startSequencers
    split
    · exact .refl s
    · exact startGates_quiet s
  unfold State.startBlocks
  split
  · refine (hsequencers.trans (evaluateWet_quiet _)).trans ?_
    exact ⟨⟨⟨rfl, rfl, rfl, id, id, fun hk => ⟨⟨rfl, fun _ hc => nomatch hc⟩, hk.2⟩, id, id, id, id⟩, rfl, rfl, id,
      fun _ => id⟩, fun _ => id⟩
  · exact .refl s

/-- An input's first conditioned state; the breaker's restart state is no work. -/
theorem firstState_sound (i : InputNo) (st : InputState) (s : State) :
    Sound s (s.firstState i st) ∧ (s.straps.role = .draw → s.NoTipTraffic → (s.firstState i st).NoTipTraffic) := by
  have hloop (t : State) : Quiet t (t.startLoop i st.conditioned) := by
    unfold State.startLoop
    split
    · exact setRestartCauses_quiet (restart_union_left _)
    · exact .refl t
  have hbreaker (t : State) : Sound t (t.startBreaker i st.conditioned) ∧
      (t.NoTipTraffic → (t.startBreaker i st.conditioned).NoTipTraffic) := by
    unfold State.startBreaker
    split
    · exact ⟨setBreaker_sound _ t, id⟩
    · exact ⟨.refl t, id⟩
  unfold State.firstState
  split
  · have hfield := (setField_quiet { s.field with inputs := s.field.inputs.set i st } s).trans (hloop _)
    have hrole := hfield.toSound.trans (hbreaker _).1
    exact ⟨hrole.trans (startBlocks_quiet _).toSound, fun hr hn =>
      (startBlocks_quiet _).traffic (hrole.role.trans hr) ((hbreaker _).2 (hfield.traffic hr hn))⟩
  · exact ⟨.refl s, fun _ => id⟩

/-- The state at the departure before the first STATE is handed over. -/
def State.departing (s : State) : State :=
  ((s.setMode s.modeAfterStarting).setHolds (s.holds ++ [s.restartHold])).setLine { s.line with state := .active }

theorem startRollCall_quiet (s : State) : Quiet s s.startRollCall := by
  unfold State.startRollCall
  split
  · exact setPeers_quiet _ _
  · exact .refl _

theorem depart_quiet (s : State) : Quiet s.departing s.depart := by
  have htimer : Quiet s.departing s.departing.startStateTimer := setPeers_quiet _ _
  refine (htimer.trans (handOver_state_quiet _)).trans (startRollCall_quiet _)

theorem modeAfterStarting_awake (s : State) : s.modeAfterStarting ≠ .starting := by
  unfold State.modeAfterStarting
  split <;> nofun

theorem departing_sound (s : State) : Sound s s.departing :=
  ⟨rfl, rfl, rfl, fun _ => modeAfterStarting_awake s, id, id, id, id, id, id⟩

theorem execLeaveStarting_sound (s : State) :
    ∃ t, exec .leaveStarting s = .next t ∧ Sound s t ∧ (s.straps.role = .draw → s.NoTipTraffic → t.NoTipTraffic) := by
  refine ⟨_, rfl, ?_⟩
  split
  · exact ⟨(departing_sound s).trans (depart_quiet s).toSound, fun hr hn => (depart_quiet s).traffic hr hn⟩
  · exact ⟨.refl s, fun _ => id⟩

/-- Every command but a restart keeps the limits of every list. -/
theorem exec_sound (c : Instr) (s : State) (h : ∀ pins, c ≠ .coldRestart pins ∧ c ≠ .warmRestart pins) :
    ∃ t, exec c s = .next t ∧ Sound s t ∧ (s.straps.role = .draw → s.NoTipTraffic → t.NoTipTraffic) := by
  by_cases hc : startsBlocks c = false
  · obtain ⟨t, ht, hk⟩ := exec_kept c s hc
    exact ⟨t, ht, hk.toSound, hk.traffic⟩
  · cases c with
    | inputFirstConditioned i active => exact ⟨_, rfl, firstState_sound _ _ s⟩
    | inputFirstStateForced i raw => exact ⟨_, rfl, firstState_sound _ _ s⟩
    | leaveStarting => exact execLeaveStarting_sound s
    | coldRestart pins => exact absurd rfl (h pins).1
    | warmRestart pins => exact absurd rfl (h pins).2
    | _ => exact absurd rfl hc

end Sys2Proof.Machine
end

section
/-! STARTING keeps the station asleep, the two restarts leave it asleep, and with that every step keeps the invariants
of the machine. -/

namespace Sys2Proof.Machine

/-! ## Asleep in STARTING -/

/-- The mode is STARTING and nothing has begun. -/
def State.Asleep (s : State) : Prop :=
  s.mode = .starting ∧ s.restartCauses.restart = true ∧ s.holds = [] ∧ s.reservations = [] ∧
  s.line.state = .offline ∧ s.line.queue = [] ∧ s.line.waiting = [] ∧ s.tip.stage = .idle ∧ s.workToken = none ∧
  ∀ g, (s.gate g).state.inHand = false

theorem asleep_iff (s : State) : s.Asleep ↔ s.AtRest ∧ s.mode = .starting := by
  constructor
  · rintro ⟨hm, hc, hh, hr, ho, hq, hw, ht, hb, hg⟩
    exact ⟨⟨hc, fun _ => ⟨hh, hr, ho, hq, hw, ht, hb, hg .a, hg .b⟩⟩, hm⟩
  · rintro ⟨⟨hc, hrest⟩, hm⟩
    obtain ⟨hh, hr, ho, hq, hw, ht, hb, ha, hg⟩ := hrest hm
    exact ⟨hm, hc, hh, hr, ho, hq, hw, ht, hb, fun g => by cases g <;> assumption⟩

namespace State.Asleep

variable {s : State}

theorem starting (h : s.Asleep) : s.mode = .starting := h.1
theorem cause (h : s.Asleep) : s.restartCauses.restart = true := h.2.1
theorem holds (h : s.Asleep) : s.holds = [] := h.2.2.1
theorem offline (h : s.Asleep) : s.line.state = .offline := h.2.2.2.2.1
theorem queue (h : s.Asleep) : s.line.queue = [] := h.2.2.2.2.2.1
theorem tip (h : s.Asleep) : s.tip.stage = .idle := h.2.2.2.2.2.2.2.1
theorem work (h : s.Asleep) : s.workToken = none := h.2.2.2.2.2.2.2.2.1
theorem gate (h : s.Asleep) (g : Gate) : (s.gate g).state.inHand = false := h.2.2.2.2.2.2.2.2.2 g

theorem drawing (h : s.Asleep) (g : Gate) : (s.gate g).state.drawing = false := by
  have hg := h.gate g
  cases hs : (s.gate g).state <;> rw [hs] at hg
  case warning | opening | opened => cases hg
  all_goals rfl

theorem holdsKept (h : s.Asleep) : s.HoldsKept := by
  rw [State.HoldsKept, h.holds]
  exact ⟨List.nodup_nil, nofun⟩

theorem tipSafe (h : s.Asleep) : s.TipSafe := fun _ => by
  refine ⟨fun ⟨x, hx, _⟩ => ?_, fun ho => ?_, fun ⟨x, hx, _⟩ => ?_⟩
  · rw [h.holds] at hx; cases hx
  · rw [State.TipOpen, h.tip] at ho; cases ho
  · rw [h.holds] at hx; cases hx

theorem drawSafe (h : s.Asleep) : s.DrawSafe := fun _ hne => absurd h.holds hne

theorem not_live (h : s.Asleep) : s.mode.live = false := by rw [h.starting]; rfl

/-! ### Operations -/

theorem setBreaker {b : Breaker} (h : s.Asleep) (hb : (s.setBreaker b).workToken = none) : (s.setBreaker b).Asleep :=
  ⟨h.starting, h.cause, h.holds, h.2.2.2.1, h.offline, h.queue, h.2.2.2.2.2.2.1, h.tip, hb, h.gate⟩

theorem setGates {x : PerGate GateSeq} (h : s.Asleep) (hx : ∀ g, (x.get g).state.inHand = false) :
    (s.setGates x).Asleep :=
  ⟨h.starting, h.cause, h.holds, h.2.2.2.1, h.offline, h.queue, h.2.2.2.2.2.2.1, h.tip, h.work, hx⟩

theorem updateGate {f : GateSeq → GateSeq} (h : s.Asleep) {g : Gate}
    (hf : (f (s.gate g)).state.inHand = false) : (s.updateGate g f).Asleep := by
  refine h.setGates fun k => ?_
  by_cases hk : k = g
  · subst hk; rw [PerGate.get_modify_same]; exact hf
  · rw [PerGate.get_modify_other hk]; exact h.gate k

theorem setRestartCauses (h : s.Asleep) (d : Causes) :
    (s.setRestartCauses (s.restartCauses.union d)).Asleep :=
  ⟨h.starting, restart_union_left d h.cause, h.holds, h.2.2.2.1, h.offline, h.queue, h.2.2.2.2.2.2.1, h.tip, h.work,
    h.gate⟩

theorem addOwnCause (h : s.Asleep) (c : Causes) : (s.addOwnCause c).Asleep := by
  rw [State.addOwnCause, if_pos h.starting]
  exact h.setRestartCauses c

theorem setPort (h : s.Asleep) (p : Port) : (s.setPort p).Asleep := h
theorem setField (h : s.Asleep) (f : Field) : (s.setField f).Asleep := h
theorem setWatch (h : s.Asleep) (w : Watch) : (s.setWatch w).Asleep := h
theorem setStore (h : s.Asleep) (x : Store) : (s.setStore x).Asleep := h
theorem setPeers (h : s.Asleep) (p : PeerTable) : (s.setPeers p).Asleep := h
theorem mark (h : s.Asleep) (k : EventKind) : (s.mark k).Asleep := h

theorem evaluateWet (h : s.Asleep) : s.evaluateWet.Asleep := by
  unfold State.evaluateWet
  split
  · exact h
  · exact h

theorem setLine {l : Line} (h : s.Asleep) (hs : l.state = s.line.state) (hq : l.queue = s.line.queue)
    (hw : l.waiting = s.line.waiting) : (s.setLine l).Asleep :=
  ⟨h.starting, h.cause, h.holds, h.2.2.2.1, hs.trans h.offline, hq.trans h.queue, hw.trans h.2.2.2.2.2.2.1, h.tip,
    h.work, h.gate⟩

theorem stopOpenWindow (h : s.Asleep) (g : Gate) : s.stopOpenWindow g = s := by
  rw [State.stopOpenWindow, if_neg]
  intro hs
  have hg := h.gate g
  rw [hs] at hg
  cases hg

theorem endDraw (h : s.Asleep) (cause : EndCause) (g : Gate) : s.endDraw cause g = s := by
  have hg := h.drawing g
  unfold State.endDraw
  cases hs : (s.gate g).state <;> rw [hs] at hg
  case warning | opening | opened => cases hg

theorem endDrawIf (h : s.Asleep) (cause : Option EndCause) (g : Gate) : s.endDrawIf cause g = s := by
  cases cause with
  | some c => exact h.endDraw c g
  | none => rfl

theorem noteWet (h : s.Asleep) (before : State) : (s.noteWet before).Asleep := by
  have hnote {t : State} (ht : t.Asleep) (status : WetStatus) (limit : Nat) (g : Gate) :
      (t.updateGate g (GateSeq.noteWet status limit)).Asleep :=
    ht.updateGate (by rw [noteWet_state]; exact ht.gate g)
  unfold State.noteWet
  split
  · exact h
  · exact hnote (hnote h _ _ _) _ _ _

theorem inform (h : s.Asleep) (before : State) : (s.inform before).Asleep := by
  cases hrole : s.straps.role with
  | tip => rw [inform_not_offered hrole (by rw [h.tip]; rfl)]; exact h
  | draw =>
    have hn := h.noteWet before
    rw [State.inform, hrole]
    dsimp only
    rw [State.informGates, hn.endDrawIf, hn.endDrawIf]
    exact hn

theorem failGate (h : s.Asleep) (cause : GateFault) (g : Gate) : (s.failGate cause g).Asleep := by
  have hfail : (s.updateGate g (GateSeq.fail cause s.time)).Asleep := h.updateGate rfl
  rw [State.failGate, h.stopOpenWindow, h.gate g]
  exact hfail.mark .fault

theorem enterFault (h : s.Asleep) (cause : GateFault) (g : Gate) : (s.enterFault cause g).Asleep := by
  unfold State.enterFault State.reportUnproven
  split
  · exact h.failGate cause g
  · exact (h.failGate cause g).addOwnCause _

theorem limitConflict (h : s.Asleep) (g : Gate) : (s.limitConflict g).Asleep := by
  unfold State.limitConflict
  split
  · exact h
  · exact h.enterFault _ g

theorem enterBreaker (h : s.Asleep) {b : BreakerState} (hb : ∀ t, b ≠ .working t) : (s.enterBreaker b).Asleep := by
  have hset : (s.setBreaker { s.breaker with state := b, renewal := Timer.stopped, returning := Timer.stopped }).Asleep :=
    h.setBreaker (by cases b <;> simp_all [State.workToken])
  unfold State.enterBreaker
  cases b with
  | fault c => exact (hset.mark _).mark _
  | parked | working | returning => exact hset.mark _

theorem informBreakerIn (h : s.Asleep) : s.informBreakerIn = s := by rw [State.informBreakerIn, h.tip]
theorem informBreakerOut (h : s.Asleep) : s.informBreakerOut = s := by rw [State.informBreakerOut, h.tip]

theorem parkBreaker (h : s.Asleep) : s.parkBreaker.Asleep := by
  have hp := h.enterBreaker (b := .parked) nofun
  rw [State.parkBreaker, hp.informBreakerIn]
  exact hp

theorem handOver (h : s.Asleep) (f : Frame) : s.handOver f = s := by rw [State.handOver, h.offline]

theorem handOverSurface (h : s.Asleep) (depth : Nat) (q : Quality) : s.handOverSurface depth q = s := by
  rw [State.handOverSurface, h.offline]
  exact h.handOver _

theorem request (h : s.Asleep) (code : Nat) (tests : List (Bool × AnswerBody)) (body : AnswerBody)
    (effect : State → State) : (s.request code tests body effect).Asleep := by
  by_cases hp : s.port.restartPending = true
  · rw [State.request, if_pos hp]; exact h
  · rw [request_starting _ _ _ _ _ (Bool.eq_false_iff.mpr hp) h.starting]
    exact h.setPort _

theorem received (h : s.Asleep) (header : Header) (suits : Option Role → Bool) (table blocks : Nat → State → State) :
    s.received header suits table blocks = s := by
  rw [State.received, if_pos h.offline]

theorem arrival {α : Type} (h : s.Asleep) (f : Inbound α) (k : FrameKind) (act : Frame → State → State)
    (suits : Option Role → Bool) (table blocks : α → Nat → State → State) :
    s.arrival f k act suits table blocks = s := by
  cases f with
  | own => rw [State.arrival, State.ownArrival, h.queue]; rfl
  | received header p => exact h.received ..

theorem failAttempt (h : s.Asleep) (p : QueuedFrame → Bool) : s.failAttempt p = s := by
  rw [State.failAttempt, h.queue]; rfl

theorem edge (h : s.Asleep) {fn : InputFunction} {i : InputNo} {active : Bool} {act : State → State}
    (ha : ∀ t : State, t.Asleep → (act t).Asleep) : (s.edge fn i active act).Asleep := by
  unfold State.edge
  split
  · exact ha _ h
  · exact h

theorem whenLive (h : s.Asleep) (act : State → State) : s.whenLive act = s := by
  rw [State.whenLive, h.not_live]; rfl

end State.Asleep

/-! ### Commands -/

theorem event_asleep {act : State → State} {s : State} (h : (act s).Asleep) :
    ∃ t, event act s = .next t ∧ t.Asleep := ⟨_, rfl, h.inform s⟩

theorem arrival_asleep {α : Type} {s : State} (h : s.Asleep) (f : Inbound α) (k : FrameKind)
    (act : Frame → State → State) (suits : Option Role → Bool) (table blocks : α → Nat → State → State) :
    ∃ t, event (State.arrival f k act suits table blocks) s = .next t ∧ t.Asleep :=
  event_asleep (by rw [h.arrival]; exact h)

theorem request_asleep {s : State} (h : s.Asleep) (code : Nat) (tests : List (Bool × AnswerBody)) (body : AnswerBody)
    (effect : State → State) :
    ∃ t, (.next (s.request code tests body effect) : Result) = .next t ∧ t.Asleep :=
  ⟨_, rfl, h.request ..⟩

/-- What stands as it was is still asleep. -/
theorem event_same_asleep {act : State → State} {s : State} (h : s.Asleep) (ha : act s = s) :
    ∃ t, event act s = .next t ∧ t.Asleep := event_asleep (by rw [ha]; exact h)

theorem malformedMessage_asleep {s : State} (h : s.Asleep) : s.malformedMessage.Asleep := by
  unfold State.malformedMessage
  split
  · exact h
  · exact h.setPort _

theorem closedLimitComes_asleep {s : State} (h : s.Asleep) (g : Gate) : (s.closedLimitComes g).Asleep := by
  unfold State.closedLimitComes
  split
  · exact h.limitConflict g
  · rw [if_neg]
    · exact h
    · intro hs; have hg := h.gate g; rw [hs] at hg; cases hg

theorem openLimitComes_asleep {s : State} (h : s.Asleep) (g : Gate) : (s.openLimitComes g).Asleep := by
  unfold State.openLimitComes
  split
  · exact h.limitConflict g
  · rw [if_neg]
    · exact h
    · intro hs; have hg := h.gate g; rw [hs] at hg; cases hg

theorem closedLimitGoes_asleep {s : State} (h : s.Asleep) (g : Gate) : (s.closedLimitGoes g).Asleep := by
  unfold State.closedLimitGoes
  split
  · exact h.enterFault _ g
  · exact h.enterFault _ g
  all_goals exact h

theorem boomParks_asleep {s : State} (h : s.Asleep) : s.boomParks.Asleep := by
  unfold State.boomParks
  split
  · exact h.parkBreaker
  · exact h.parkBreaker
  all_goals exact h

theorem boomLeaves_asleep {s : State} (h : s.Asleep) : s.boomLeaves.Asleep := by
  unfold State.boomLeaves
  split
  · have hf := h.enterBreaker (b := .fault .parkLost) nofun
    rw [hf.informBreakerOut]
    exact hf
  all_goals exact h

theorem loopOpens_asleep {s : State} (h : s.Asleep) : s.loopOpens.Asleep := by
  rw [State.loopOpens, if_pos h.starting]
  exact h.addOwnCause _

theorem endBreakerWork_asleep {s : State} (h : s.Asleep) (cause : WorkEnd) : s.endBreakerWork cause = s := by
  have hw := h.work
  unfold State.endBreakerWork
  unfold State.workToken at hw
  split at hw
  · cases hw
  all_goals simp only [*]

theorem workLapses_asleep {s : State} (h : s.Asleep) : s.workLapses = s := by
  rw [State.workLapses, endBreakerWork_asleep h, ite_self]

theorem returnRunsOut_asleep {s : State} (h : s.Asleep) : s.returnRunsOut.Asleep := by
  unfold State.returnRunsOut
  split
  · split
    · exact h.enterBreaker nofun
    · exact h
  all_goals exact h

theorem strokeRunsOut_asleep {s : State} (h : s.Asleep) (g : Gate) : s.strokeRunsOut g = s := by
  have hg := h.gate g
  unfold State.strokeRunsOut
  split <;> simp_all [GateState.inHand]

theorem warningRunsOut_asleep {s : State} (h : s.Asleep) (g : Gate) : s.warningRunsOut g = s := by
  rw [State.warningRunsOut, if_neg]
  rintro ⟨hs, _⟩
  have hg := h.gate g; rw [hs] at hg; cases hg

theorem windowRunsOut_asleep {s : State} (h : s.Asleep) (g : Gate) : s.windowRunsOut g = s := by
  rw [State.windowRunsOut, if_neg]
  rintro ⟨hs, _⟩
  have hg := h.gate g; rw [hs] at hg; cases hg

theorem drawLapses_asleep {s : State} (h : s.Asleep) (g : Gate) : s.drawLapses g = s := by
  rw [State.drawLapses, h.endDraw, ite_self]

theorem silenceRunsOut_asleep {s : State} (h : s.Asleep) (n : Nat) : (s.silenceRunsOut n).Asleep := by
  unfold State.silenceRunsOut
  split
  · exact (h.setPeers _).mark _
  · exact h

theorem stateRunsOut_asleep {s : State} (h : s.Asleep) : s.stateRunsOut.Asleep := by
  have ht : s.startStateTimer.Asleep := h.setPeers _
  unfold State.stateRunsOut
  split
  · rw [ht.handOver]; exact ht
  · exact h

theorem rangingInput_asleep {s : State} (h : s.Asleep) (r : RangingRecord) : (s.rangingInput r).Asleep := by
  cases r with
  | malformed => exact h.setField _
  | record distance quality =>
    rw [State.rangingInput, State.takeRecord, h.not_live, Bool.false_and, if_pos (by rfl)]
    exact h.setField _

theorem pacingRunsOut_asleep {s : State} (h : s.Asleep) : s.pacingRunsOut.Asleep := by
  unfold State.pacingRunsOut
  split
  · split
    · rename_i depth quality _
      have ht : (s.setField { s.field with pendingReading := none, pacing := s.pacingStart }).Asleep := h.setField _
      rw [ht.handOverSurface]; exact ht
    · exact h.setField _
  · exact h

theorem endWrite_asleep {s : State} (h : s.Asleep) (took : Bool) : (s.endWrite took).Asleep := by
  unfold State.endWrite
  split
  · exact (h.setStore _).mark _
  · exact h

theorem unknownMessage_asleep {s : State} (h : s.Asleep) (w : UnknownMessage) : (s.unknownMessage w).Asleep := by
  cases w with
  | code c =>
    simp only [State.unknownMessage, State.refuseUnknown]
    split
    · exact h
    · exact h.setPort _
  | reportKind k => exact h.request ..

theorem weigherPulse_asleep {s : State} (h : s.Asleep) (g : Gate) :
    ∃ t, exec (.weigherPulse g) s = .next t ∧ t.Asleep := by
  have hc : (s.countPulse g).Asleep := h.setField _
  refine ⟨_, rfl, ?_⟩
  rw [hc.whenLive, ite_self]
  exact hc

/-- In STARTING no command but the departure and the restarts, which give the blocks their states, ends the sleep. -/
theorem exec_asleep (c : Instr) {s : State} (h : s.Asleep) (hc : startsBlocks c = false) :
    ∃ t, exec c s = .next t ∧ t.Asleep := by
  cases c with
  | inputFirstConditioned | inputFirstStateForced | coldRestart | warmRestart | leaveStarting => cases hc
  | tip | tipCancel | breakWork | breakRenew | breakStop | draw | drawRenew | drawStop | gateReset | halt | haltRelease
  | entry | entryRelease | hangupClear | seed | events | eventAck | eventEnable | profileCommit | restart =>
    exact request_asleep h ..
  | status first =>
    refine ⟨_, rfl, ?_⟩
    split
    · exact h
    · exact h.setPort _
  | report kind =>
    refine ⟨_, rfl, ?_⟩
    split <;> exact h.request ..
  | reportNext =>
    refine ⟨_, rfl, ?_⟩
    split
    · split <;> exact h.request ..
    · exact h.request ..
  | profileLoad =>
    refine ⟨_, rfl, ?_⟩
    split
    · exact h.request ..
    · exact malformedMessage_asleep h
  | malformedMessage => exact ⟨_, rfl, malformedMessage_asleep h⟩
  | unknownRequest w => exact ⟨_, rfl, unknownMessage_asleep h w⟩
  | holdSetArrival | holdLiftArrival | offerArrival | withdrawArrival | tippedArrival | drawnArrival | surfaceArrival
  | stateArrival => exact arrival_asleep h ..
  | undefinedKindArrival header kind => exact event_same_asleep h (h.received ..)
  | receiveError e =>
    refine ⟨_, rfl, ?_⟩
    rw [if_pos h.offline]; exact h
  | transmitAttemptStart =>
    refine ⟨_, rfl, ?_⟩
    rw [State.startAttempt, h.queue, List.find?_nil, ite_self]; exact h
  | arbitrationLoss => exact event_same_asleep h (by simp [State.loseArbitration, Line.sending, h.queue])
  | transmitError => exact event_same_asleep h (h.failAttempt _)
  | waitLimit => exact event_same_asleep h (by rw [State.waitRunsOut, h.failAttempt, ite_self])
  | isolationRetryExpiry =>
    refine ⟨_, rfl, ?_⟩
    rw [State.retryRunsOut, h.offline, if_neg nofun]; exact h
  | stopLoopOpens => exact event_asleep (h.edge fun _ => loopOpens_asleep)
  | breakerParkActive => exact event_asleep (h.edge fun _ => boomParks_asleep)
  | breakerParkInactive => exact event_asleep (h.edge fun _ => boomLeaves_asleep)
  | closedLimitActive g => exact event_asleep (h.edge fun _ ht => closedLimitComes_asleep ht g)
  | closedLimitInactive g => exact event_asleep (h.edge fun _ ht => closedLimitGoes_asleep ht g)
  | openLimitActive g => exact event_asleep (h.edge fun _ ht => openLimitComes_asleep ht g)
  | stopLoopCloses | openLimitInactive | receiverReadyActive | spareInputEdge =>
    exact event_asleep (h.edge fun _ ht => ht)
  | truckPresentActive | truckPresentInactive | receiverReadyInactive =>
    exact event_asleep (h.edge fun _ ht => by rw [ht.whenLive]; exact ht)
  | weigherPulse g => exact weigherPulse_asleep h g
  | rangingRecord r => exact event_asleep (rangingInput_asleep h r)
  | offerTimerExpiry => exact event_same_asleep h (by rw [State.offerRunsOut, h.tip])
  | settleTimerExpiry => exact event_same_asleep h (by rw [State.settleRunsOut, h.tip])
  | breakerRenewalExpiry => exact event_same_asleep h (workLapses_asleep h)
  | returnTimerExpiry => exact event_asleep (returnRunsOut_asleep h)
  | warningTimerExpiry g => exact event_same_asleep h (warningRunsOut_asleep h g)
  | strokeTimerExpiry g => exact event_same_asleep h (strokeRunsOut_asleep h g)
  | drawRenewalExpiry g => exact event_same_asleep h (drawLapses_asleep h g)
  | starvationWindowExpiry g => exact event_same_asleep h (windowRunsOut_asleep h g)
  | wetRestExpiry => exact event_asleep (h.setWatch _)
  | silenceTimerExpiry station => exact event_asleep (silenceRunsOut_asleep h _)
  | rollCallTimerExpiry =>
    exact event_same_asleep h (by rw [State.rollCallRunsOut, if_neg]; rw [h.starting]; nofun)
  | stateTimerExpiry => exact event_asleep (stateRunsOut_asleep h)
  | pacingTimerExpiry => exact event_asleep (pacingRunsOut_asleep h)
  | storeWriteEnd took => exact ⟨_, rfl, endWrite_asleep h took⟩

/-! ### First states, departure, restarts -/

theorem startGates_asleep {s : State} (h : s.Asleep) : s.startGates.Asleep := by
  have hrest (g : Gate) : (s.restartGate g).state.inHand = false := by
    unfold State.restartGate GateSeq.restarted
    dsimp only
    split
    · split <;> rfl
    · split <;> rfl
  have hset : (s.setGates ⟨s.restartGate .a, s.restartGate .b⟩).Asleep :=
    h.setGates fun g => by cases g <;> exact hrest _
  unfold State.startGates
  dsimp only
  split
  · exact hset.setRestartCauses _
  · exact hset

theorem startBlocks_asleep {s : State} (h : s.Asleep) : s.startBlocks.Asleep := by
  have hsequencers : s.startSequencers.Asleep := by
    unfold State.startSequencers
    split
    · exact h
    · exact startGates_asleep h
  unfold State.startBlocks
  split
  · exact hsequencers.evaluateWet
  · exact h

theorem firstState_asleep (i : InputNo) (st : InputState) {s : State} (h : s.Asleep) : (s.firstState i st).Asleep := by
  have hloop {t : State} (ht : t.Asleep) : (t.startLoop i st.conditioned).Asleep := by
    unfold State.startLoop
    split
    · exact ht.setRestartCauses _
    · exact ht
  have hbreaker {t : State} (ht : t.Asleep) : (t.startBreaker i st.conditioned).Asleep := by
    unfold State.startBreaker
    split
    · exact ht.setBreaker (by cases st.conditioned == some true <;> rfl)
    · exact ht
  unfold State.firstState
  split
  · exact startBlocks_asleep (hbreaker (hloop (h.setField _)))
  · exact h

theorem restart_asleep (cold : Bool) (pins : StrapPins) (s : State) : (s.restart cold pins).Asleep :=
  ⟨rfl, rfl, rfl, rfl, rfl, rfl, rfl, rfl, rfl, fun g => by cases g <;> rfl⟩

end Sys2Proof.Machine
end

section
/-! The invariants of the machine over every step, and over every command. -/

namespace Sys2Proof.Machine

/-- What a step can do: a command on the state with some queue, or one millisecond. -/
theorem step_cases {s t : State} (h : step s = .next t) :
    (∃ c l, exec c (s.setPending l) = .next t) ∨ t = s.tick := by
  unfold step at h
  split at h
  · unfold idle at h
    split at h
    · exact .inl ⟨_, s.pending, h⟩
    · cases h; exact .inr rfl
  · exact .inl ⟨_, _, h⟩

/-- An invariant that the queue of commands has no part in, and that commands and the clock keep, is kept by steps. -/
theorem step_keeps {P : State → Prop} (hpending : ∀ (l : List Instr) (s : State), P s → P (s.setPending l))
    (hexec : ∀ (c : Instr) (s t : State), P s → exec c s = .next t → P t) (htick : ∀ s : State, P s → P s.tick)
    {s t : State} (hs : P s) (h : step s = .next t) : P t := by
  obtain ⟨c, l, hc⟩ | rfl := step_cases h
  · exact hexec c _ t (hpending l s hs) hc
  · exact htick s hs

theorem eq_of_next {r : Result} {t u : State} (hu : r = .next u) (ht : r = .next t) : u = t := by
  rw [hu] at ht; cases ht; rfl

/-- What a command can do to the lists: a restart empties them, and anything else keeps their limits. -/
theorem exec_restarts_or_sound {c : Instr} {s t : State} (h : exec c s = .next t) :
    (∃ cold pins, t = s.restart cold pins) ∨
    (Sound s t ∧ (s.straps.role = .draw → s.NoTipTraffic → t.NoTipTraffic)) := by
  by_cases hc : ∀ pins, c ≠ .coldRestart pins ∧ c ≠ .warmRestart pins
  · obtain ⟨u, hu, hk⟩ := exec_sound c s hc
    obtain rfl := eq_of_next hu h
    exact .inr hk
  · left
    cases c with
    | coldRestart pins => exact ⟨true, pins, eq_of_next h rfl⟩
    | warmRestart pins => exact ⟨false, pins, eq_of_next h rfl⟩
    | _ => exact absurd (fun _ => ⟨nofun, nofun⟩) hc

/-! ## Column -/

theorem warm_fits {old new : Option Profile} {c : Column} (h : c.Fits (old.getD Profile.absent).capacity) :
    (c.warm old new).Fits (new.getD Profile.absent).capacity := by
  cases new with
  | none => exact Column.fits_of_empty rfl
  | some p =>
    by_cases hkeep : old.map (·.bands) = some p.bands
    · obtain ⟨q, rfl, hq⟩ := Option.map_eq_some_iff.mp hkeep
      have hcap : (some q |>.getD Profile.absent).capacity = p.capacity := by
        simp only [Option.getD_some, Profile.capacity, hq]
      rw [hcap] at h
      exact Column.Fits.congr h (by simp [Column.warm, hq]) (by simp [Column.warm, hq])
    · exact Column.fits_of_empty (by simp [Column.warm, hkeep])

theorem restart_columnKept (cold : Bool) (pins : StrapPins) {s : State} (h : s.ColumnKept) :
    (s.restart cold pins).ColumnKept := by
  cases cold with
  | true => exact Column.fits_of_empty rfl
  | false => exact warm_fits h

/-- Settles O4: every block's operations keep the column's limits, and a WARM restart keeps the list under the same
bands alone. -/
theorem stepKeepsColumn : Obligations.StepKeepsColumn := fun _ _ hs h => by
  refine step_keeps (P := State.ColumnKept) (fun _ _ hk => hk) (fun c s t hk hc => ?_)
    (fun s hk => (tick_quiet s).column hk) hs h
  obtain ⟨cold, pins, rfl⟩ | ⟨hsound, _⟩ := exec_restarts_or_sound hc
  · exact restart_columnKept cold pins hk
  · exact hsound.column hk

/-! ## Buffers -/

/-- Settles O5: no restart touches the buffer or the image, and a load passes the test of the buffer's end. -/
theorem stepKeepsBuffers : Obligations.StepKeepsBuffers := fun _ _ hs h => by
  refine step_keeps (P := State.BuffersKept) (fun _ _ hk => hk) (fun c s t hk hc => ?_)
    (fun s hk => (tick_quiet s).buffers hk) hs h
  obtain ⟨cold, pins, rfl⟩ | ⟨hsound, _⟩ := exec_restarts_or_sound hc
  · exact hk
  · exact hsound.buffers hk

/-! ## Reservations -/

/-- Settles O6: an entry joins under the tests of its class and volume alone, and a second one of a station replaces
the first. -/
theorem stepKeepsReservations : Obligations.StepKeepsReservations := fun _ _ hs h => by
  refine step_keeps (P := State.ReservationsKept) (fun _ _ hk => hk) (fun c s t hk hc => ?_)
    (fun s hk => (tick_quiet s).reservations hk) hs h
  obtain ⟨cold, pins, rfl⟩ | ⟨hsound, _⟩ := exec_restarts_or_sound hc
  · exact ⟨List.nodup_nil, nofun⟩
  · exact hsound.reservations hk

/-! ## Transmit queue -/

theorem queueKept_iff (s : State) :
    s.QueueKept ↔ (s.straps.role = .draw → s.NoTipTraffic) ∧ QueueFits s.line.queue := by
  rw [State.QueueKept, queueFits_iff]

theorem Sound.queueKept {s t : State} (h : Sound s t) (ht : s.straps.role = .draw → s.NoTipTraffic → t.NoTipTraffic)
    (hk : s.QueueKept) : t.QueueKept := by
  rw [queueKept_iff] at hk ⊢
  exact ⟨fun hr => ht (h.role ▸ hr) (hk.1 (h.role ▸ hr)), h.queue hk.2⟩

theorem restart_queueKept (cold : Bool) (pins : StrapPins) (s : State) : (s.restart cold pins).QueueKept :=
  ⟨fun _ => ⟨rfl, nofun, nofun⟩, Nat.zero_le _, Nat.zero_le _, Nat.zero_le _, Nat.zero_le _, Nat.zero_le _⟩

/-- Settles O7: a frame joins a queue of fewer than eight, replaces its kind, or takes the place of one dropped; and
the tip sequencer alone forms the frames of a tip. -/
theorem stepKeepsTransmitQueue : Obligations.StepKeepsTransmitQueue := fun _ _ hs h => by
  refine step_keeps (P := State.QueueKept) (fun _ _ hk => hk) (fun c s t hk hc => ?_)
    (fun s hk => (tick_quiet s).toSound.queueKept (tick_quiet s).traffic hk) hs h
  obtain ⟨cold, pins, rfl⟩ | ⟨hsound, htraffic⟩ := exec_restarts_or_sound hc
  · exact restart_queueKept cold pins s
  · exact hsound.queueKept htraffic hk

/-! ## Rest, holds, safety -/

theorem atRest_of_awake {s : State} (hc : s.restartCauses.restart = true) (hm : s.mode ≠ .starting) : s.AtRest :=
  ⟨hc, fun h => absurd h hm⟩

/-- The hold list at the departure is the restart HALT, which bears RESTART, and nothing else has begun. -/
theorem departing_kept {s : State} (h : s.Asleep) : s.departing.HoldsKept ∧ s.departing.TipSafe ∧ s.departing.DrawSafe := by
  have hholds : s.departing.holds = [s.restartHold] := by
    show s.holds ++ [s.restartHold] = _
    rw [h.holds, List.nil_append]
  have htip : s.departing.tip.stage = .idle := h.tip
  refine ⟨?_, fun _ => ⟨fun _ ho => ?_, fun ho => ?_, fun _ => h.work⟩, fun _ _ => ⟨h.drawing .a, h.drawing .b⟩⟩
  · rw [State.HoldsKept, hholds]
    refine ⟨nodup_one _, List.forall_mem_singleton.mpr ?_⟩
    show (!s.restartCauses.isEmpty) = true
    simp [Causes.isEmpty, h.cause]
  · rw [State.TipOpen, htip] at ho; cases ho
  · rw [State.TipOpen, htip] at ho; cases ho

/-- What one state after a command has of what rest keeps. -/
abbrev RestKept (s t : State) : Prop :=
  t.AtRest ∧ (s.HoldsKept → t.HoldsKept) ∧ (s.TipSafe → t.TipSafe) ∧ (s.DrawSafe → t.DrawSafe)

theorem State.Asleep.restKept {s t : State} (h : t.Asleep) : RestKept s t :=
  ⟨((asleep_iff t).mp h).1, fun _ => h.holdsKept, fun _ => h.tipSafe, fun _ => h.drawSafe⟩

theorem Kept.restKept {s t : State} (h : Kept s t) (hs : s.AtRest) (hm : s.mode ≠ .starting) : RestKept s t :=
  ⟨atRest_of_awake (h.cause hs.1) (h.awake hm), h.holdsKept, h.tipSafe, h.drawSafe⟩

theorem firstState_restKept (i : InputNo) (st : InputState) {s : State} (hs : s.AtRest) :
    RestKept s (s.firstState i st) := by
  by_cases hm : s.mode = .starting
  · exact (firstState_asleep i st ((asleep_iff s).mpr ⟨hs, hm⟩)).restKept
  · rw [State.firstState, if_neg fun h => hm h.1]
    exact (Kept.refl s).restKept hs hm

theorem depart_restKept {s : State} (h : s.Asleep) : RestKept s s.depart := by
  obtain ⟨hholds, htip, hdraw⟩ := departing_kept h
  have hk := (depart_quiet s).kept
  exact ⟨atRest_of_awake (hk.cause h.cause) (hk.awake (modeAfterStarting_awake s)), fun _ => hk.holdsKept hholds,
    fun _ => hk.tipSafe htip, fun _ => hk.drawSafe hdraw⟩

theorem leaveStarting_restKept {s t : State} (hs : s.AtRest) (h : exec .leaveStarting s = .next t) : RestKept s t := by
  have heq := eq_of_next h rfl
  split at heq
  · rename_i hm
    rw [heq]; exact depart_restKept ((asleep_iff s).mpr ⟨hs, hm.1⟩)
  · rw [heq]; exact ⟨hs, id, id, id⟩

/-- From rest a command leaves rest, and keeps the hold list's form and both safety invariants. -/
theorem exec_restKept {c : Instr} {s t : State} (hs : s.AtRest) (h : exec c s = .next t) : RestKept s t := by
  by_cases hc : startsBlocks c = false
  · by_cases hm : s.mode = .starting
    · obtain ⟨u, hu, hsleep⟩ := exec_asleep c ((asleep_iff s).mpr ⟨hs, hm⟩) hc
      obtain rfl := eq_of_next hu h
      exact hsleep.restKept
    · obtain ⟨u, hu, hk⟩ := exec_kept c s hc
      obtain rfl := eq_of_next hu h
      exact hk.restKept hs hm
  · cases c with
    | inputFirstConditioned => rw [eq_of_next h rfl]; exact firstState_restKept _ _ hs
    | inputFirstStateForced => rw [eq_of_next h rfl]; exact firstState_restKept _ _ hs
    | leaveStarting => exact leaveStarting_restKept hs h
    | coldRestart pins => rw [eq_of_next h rfl]; exact (restart_asleep true pins s).restKept
    | warmRestart pins => rw [eq_of_next h rfl]; exact (restart_asleep false pins s).restKept
    | _ => exact absurd rfl hc

theorem tick_atRest {s : State} (h : s.AtRest) : s.tick.AtRest := h

/-- Settles O8: in STARTING nothing begins, the departure brings the restart HALT with RESTART, and outside STARTING
every change of the hold list is one entry's. -/
theorem stepKeepsHoldList : Obligations.StepKeepsHoldList := by
  refine ⟨fun _ _ hs h => ?_, fun s t hs hk h => ?_⟩
  · exact step_keeps (P := State.AtRest) (fun _ _ hk => hk) (fun _ _ _ hk hc => (exec_restKept hk hc).1)
      (fun _ => tick_atRest) hs h
  · refine (step_keeps (P := fun s => s.AtRest ∧ s.HoldsKept) (fun _ _ hk => hk) (fun c s t hk hc => ?_)
      (fun s hk => ⟨tick_atRest hk.1, (tick_quiet s).kept.holdsKept hk.2⟩) ⟨hs, hk⟩ h).2
    obtain ⟨hrest, hholds, _⟩ := exec_restKept hk.1 hc
    exact ⟨hrest, hholds hk.2⟩

/-- Settles O9: a hold that enters withdraws the tip and ends work, and a request passes the tests of the holds. -/
theorem stepKeepsTipSafe : Obligations.StepKeepsTipSafe := fun s t hs hk h => by
  refine (step_keeps (P := fun s => s.AtRest ∧ s.TipSafe) (fun _ _ hk => hk) (fun c s t hk hc => ?_)
    (fun s hk => ⟨tick_atRest hk.1, (tick_quiet s).kept.tipSafe hk.2⟩) ⟨hs, hk⟩ h).2
  obtain ⟨hrest, _, htip, _⟩ := exec_restKept hk.1 hc
  exact ⟨hrest, htip hk.2⟩

/-- Settles O10: a hold that enters ends both draws, and a DRAW is accepted under no hold alone. -/
theorem stepKeepsDrawSafe : Obligations.StepKeepsDrawSafe := fun s t hs hk h => by
  refine (step_keeps (P := fun s => s.AtRest ∧ s.DrawSafe) (fun _ _ hk => hk) (fun c s t hk hc => ?_)
    (fun s hk => ⟨tick_atRest hk.1, (tick_quiet s).kept.drawSafe hk.2⟩) ⟨hs, hk⟩ h).2
  obtain ⟨hrest, _, _, hdraw⟩ := exec_restKept hk.1 hc
  exact ⟨hrest, hdraw hk.2⟩

/-! ## The queue of commands, and the answer -/

/-- Settles O2. -/
theorem commandLeavesQueue : Obligations.CommandLeavesQueue := fun c s => by
  by_cases hc : ∀ pins, c ≠ .coldRestart pins ∧ c ≠ .warmRestart pins
  · obtain ⟨t, ht, hk, _⟩ := exec_sound c s hc
    exact ⟨t, ht, hk.pending⟩
  · cases c with
    | coldRestart pins => exact ⟨_, rfl, rfl⟩
    | warmRestart pins => exact ⟨_, rfl, rfl⟩
    | _ => exact absurd (fun _ => ⟨nofun, nofun⟩) hc

/-- Settles O11: a STATUS answer ends at 250 bytes, and a report part at its count of entries. -/
theorem everyAnswerFitsItsLengthByte : Obligations.EveryAnswerFitsItsLengthByte := fun c s t hs h => by
  obtain ⟨cold, pins, rfl⟩ | ⟨hsound, _⟩ := exec_restarts_or_sound h
  · exact fun _ ha => nomatch ha
  · exact hsound.answer hs

/-! ## One step, and reset -/

/-- Settles O1. -/
theorem stepRunsFrontCommand : Obligations.StepRunsFrontCommand := by
  refine ⟨fun c rest s h => ?_, fun s h => ⟨fun c hc => ?_, fun hc => ?_⟩⟩
  · rw [step, h]; rfl
  · rw [step, h]; simp only [idle, hc]
  · rw [step, h]; simp only [idle, hc]

end Sys2Proof.Machine
end

section
/-! The codecs: a message and a frame are read back as what they were written from (R141, R171, R185 to R187). -/

namespace Sys2Proof.Machine

/-! ## Numbers -/

theorem word16_extract (v : Word16) : word16 (v.extractLsb' 8 8) (v.extractLsb' 0 8) = v := by
  ext i hi
  unfold word16
  grind

theorem word32_extract (v : Word32) :
    word32 (v.extractLsb' 24 8) (v.extractLsb' 16 8) (v.extractLsb' 8 8) (v.extractLsb' 0 8) = v := by
  ext i hi
  unfold word32
  grind

/-- The high part of two fields in one word. -/
theorem extract_high {m n : Nat} (x : BitVec m) (y : BitVec n) : (x ++ y).extractLsb' n m = x := by
  ext i hi; grind

/-- The low part of two fields in one word. -/
theorem extract_low {m n : Nat} (x : BitVec m) (y : BitVec n) : (x ++ y).extractLsb' 0 n = y := by
  ext i hi; grind

/-! ## Messages -/

/-- A message of at most 255 bytes is read as its code and fields. -/
theorem decodeMessage_messageBytes (code : Byte) (fields : List Byte) (h : fields.length ≤ 36) :
    decodeMessage (messageBytes code fields) = decodeFields code fields := by
  have hlen : (messageBytes code fields).length = fields.length + 4 := Laws.messageBytes_length code fields
  have hsplit : messageBytes code fields =
      BitVec.ofNat 8 (fields.length + 4) :: code :: (fields ++ bytes2 (crc16 (nat1 (fields.length + 4) ++ [code] ++ fields))) :=
    rfl
  unfold decodeMessage
  rw [hsplit]
  dsimp only
  have htake : (BitVec.ofNat 8 (fields.length + 4) :: code ::
      (fields ++ bytes2 (crc16 (nat1 (fields.length + 4) ++ [code] ++ fields)))).take (fields.length + 2) =
      nat1 (fields.length + 4) ++ [code] ++ fields := by simp [nat1]
  rw [if_pos]
  · simp
  · rw [← hsplit, hlen]
    refine ⟨?_, Nat.le_add_left 4 _, ?_⟩
    · rw [BitVec.toNat_ofNat]; omega
    · rw [show fields.length + 4 - 2 = fields.length + 2 from rfl, hsplit, htake]
      simp

theorem decodeFields_two {code : Byte} {v : Word16} {f : Word16 → Instr}
    (h : ∀ a b, decodeFields code [a, b] = f (word16 a b)) : decodeFields code (bytes2 v) = f v := by
  rw [bytes2, h, word16_extract]

theorem decodeFields_drawTarget (g m : Byte) (t : Word16) :
    decodeFields 6 ([g, m] ++ bytes2 t) = .draw g m (some t) := by
  have h (a b : Byte) : decodeFields 6 [g, m, a, b] = .draw g m (some (word16 a b)) := rfl
  rw [bytes2, List.cons_append, List.cons_append, List.nil_append, h, word16_extract]

theorem decodeFields_profileLoad (o : Word16) {d : List Byte} (hd : sliceOk d = true) :
    decodeFields 22 (bytes2 o ++ d) = .profileLoad o d := by
  have h (a b : Byte) : decodeFields 22 (a :: b :: d) =
      (if sliceOk d then some (Instr.profileLoad (word16 a b) d) else none).getD .malformedMessage := rfl
  rw [bytes2, List.cons_append, List.cons_append, List.nil_append, h, if_pos hd, word16_extract, Option.getD_some]

theorem decodeFields_report (k : Byte) : decodeFields 17 [k] =
    if UnknownMessage.ok (.reportKind k) then .unknownRequest (.reportKind k) else .report k := rfl

theorem decodeFields_unknown {code : Byte} (h : UnknownMessage.ok (.code code) = true) :
    decodeFields code [] = .unknownRequest (.code code) := by
  rw [decodeFields, if_pos h]; rfl

/-- The fields of a request are read back. -/
theorem decodeFields_messageFields {i : Instr} {m : Byte × List Byte} (hw : i.wellFormed = true)
    (h : messageFields i = some m) : decodeFields m.1 m.2 = i := by
  cases i with
  | draw gate mode target =>
    cases target with
    | none => obtain rfl := Option.some.inj h; rfl
    | some t => obtain rfl := Option.some.inj h; exact decodeFields_drawTarget gate mode t
  | status first => cases first <;> obtain rfl := Option.some.inj h <;> rfl
  | seed d => obtain rfl := Option.some.inj h; exact decodeFields_two fun _ _ => rfl
  | eventAck k => obtain rfl := Option.some.inj h; exact decodeFields_two fun _ _ => rfl
  | eventEnable k => obtain rfl := Option.some.inj h; exact decodeFields_two fun _ _ => rfl
  | profileLoad o d => obtain rfl := Option.some.inj h; exact decodeFields_profileLoad o hw
  | report k =>
    obtain rfl := Option.some.inj h
    have hk : ¬UnknownMessage.ok (.reportKind k) = true := by simpa [Instr.wellFormed] using hw
    rw [decodeFields_report, if_neg hk]
  | unknownRequest w =>
    cases w with
    | code c => obtain rfl := Option.some.inj h; exact decodeFields_unknown hw
    | reportKind k =>
      obtain rfl := Option.some.inj h
      rw [decodeFields_report, if_pos (show UnknownMessage.ok (.reportKind k) = true from hw)]
  | tip | tipCancel | breakWork | breakRenew | breakStop | drawRenew | drawStop | gateReset | halt | haltRelease | entry
  | entryRelease | hangupClear | reportNext | events | profileCommit | restart =>
    obtain rfl := Option.some.inj h; rfl
  | _ => exact nomatch (show none = some m from h)

/-- The fields of a request are at most 36 bytes: an offset and a slice of 32 are the longest. -/
theorem messageFields_length {i : Instr} {m : Byte × List Byte} (hw : i.wellFormed = true)
    (h : messageFields i = some m) : m.2.length ≤ 36 := by
  cases i with
  | draw gate mode target => cases target <;> obtain rfl := Option.some.inj h <;> simp
  | status first => cases first <;> obtain rfl := Option.some.inj h <;> simp
  | profileLoad o d =>
    have hd : sliceOk d = true := hw
    simp only [sliceOk, Config.maxSlice, Bool.and_eq_true, decide_eq_true_eq] at hd
    obtain rfl := Option.some.inj h
    have hd' := of_decide_eq_true hd.2
    simpa only [List.length_append, bytes2_length] using (by omega : 2 + d.length ≤ 36)
  | unknownRequest w => cases w <;> obtain rfl := Option.some.inj h <;> simp
  | tip | tipCancel | breakWork | breakRenew | breakStop | drawRenew | drawStop | gateReset | halt | haltRelease | entry
  | entryRelease | hangupClear | reportNext | events | profileCommit | restart | seed | eventAck | eventEnable
  | report =>
    obtain rfl := Option.some.inj h; simp
  | _ => exact nomatch (show none = some m from h)

/-- Settles O55. -/
theorem messagesRoundTrip : Obligations.MessagesRoundTrip := fun i message hw h => by
  obtain ⟨m, hfields, rfl⟩ := Option.map_eq_some_iff.mp h
  rw [decodeMessage_messageBytes m.1 m.2 (messageFields_length hw hfields)]
  exact decodeFields_messageFields hw hfields

/-! ## Frames -/

theorem decodeHeader_written (h : Header) (k : BitVec 4) {l : Nat} (hl : l ≤ 32) :
    decodeHeader (h.cls ++ h.station ++ k.extractLsb' 2 2) (k.extractLsb' 0 2 ++ BitVec.ofNat 6 l) h.seq =
      ⟨h, k, l⟩ := by
  have hcls : (h.cls ++ h.station ++ k.extractLsb' 2 2).extractLsb' 6 2 = h.cls := by ext i hi; grind
  have hstation : (h.cls ++ h.station ++ k.extractLsb' 2 2).extractLsb' 2 4 = h.station := by ext i hi; grind
  have hkind : k.extractLsb' 2 2 ++ k.extractLsb' 0 2 = k := by ext i hi; grind
  unfold decodeHeader
  rw [hcls, hstation, extract_low, extract_high, hkind, extract_low, BitVec.toNat_ofNat, Nat.mod_eq_of_lt (by omega)]

/-- A frame whose length suits its kind is read as its header and payload. -/
theorem decodeFrame_frameBytes (h : Header) {kind : Nat} {payload : List Byte} (hk : kind < 16)
    (hl : payload.length ≤ 32) (ha : lengthAllowed kind payload.length = true) :
    decodeFrame (frameBytes h kind payload) =
      (decodePayload h (BitVec.ofNat 4 kind) payload).getD (.receiveError .length) := by
  have hsplit : frameBytes h kind payload =
      (h.cls ++ h.station ++ (BitVec.ofNat 4 kind).extractLsb' 2 2) ::
      ((BitVec.ofNat 4 kind).extractLsb' 0 2 ++ BitVec.ofNat 6 payload.length) :: h.seq ::
      (payload ++ bytes2 (crc16 ([h.cls ++ h.station ++ (BitVec.ofNat 4 kind).extractLsb' 2 2,
        (BitVec.ofNat 4 kind).extractLsb' 0 2 ++ BitVec.ofNat 6 payload.length, h.seq] ++ payload))) := by
    simp [frameBytes, headerBytes]
  have hkind : (BitVec.ofNat 4 kind).toNat = kind := by rw [BitVec.toNat_ofNat]; exact Nat.mod_eq_of_lt hk
  rw [hsplit, decodeFrame, decodeHeader_written h _ hl]
  dsimp only
  rw [hkind, if_pos ⟨hl, ha⟩, if_neg (by simp), if_pos (by simp [bytes2])]
  simp

theorem decodeState_stateBytes (p : StatePayload) : decodeState (stateBytes p) = some p := by
  have hflags : (stateFlagsByte p).getLsbD 0 = p.entryHeld ∧ (stateFlagsByte p).extractLsb' 1 2 = p.hangupSource ∧
      (stateFlagsByte p).getLsbD 3 = p.hangupGateB ∧ (stateFlagsByte p).getLsbD 4 = p.modelSeeded ∧
      (stateFlagsByte p).getLsbD 5 = p.digestPresent := by
    unfold stateFlagsByte
    refine ⟨?_, ?_, ?_, ?_, ?_⟩
    · rw [BitVec.getLsbD_append]; simp
    · ext i hi; grind
    all_goals repeat rw [BitVec.getLsbD_append]
    all_goals simp
  obtain ⟨hentry, hsource, hgate, hseeded, hdigest⟩ := hflags
  simp only [stateBytes, bytes4, bytes2, List.cons_append, List.nil_append, decodeState, word32_extract, word16_extract,
    extract_high, extract_low, hentry, hsource, hgate, hseeded, hdigest]

/-! ### Received arrivals -/

theorem decodeFrame_holdSet (h : Header) (p : HoldSetPayload) :
    decodeFrame (frameBytes h 1 (holdSetBytes p)) = .holdSetArrival (.received h p) := by
  cases p with
  | len1 | len2 | len3 => rw [decodeFrame_frameBytes h (by omega) (Nat.le_of_ble_eq_true rfl) rfl]; rfl
  | len8 k s gap surface =>
    rw [decodeFrame_frameBytes h (by omega) (Nat.le_of_ble_eq_true rfl) rfl]
    have hread (g3 g2 g1 g0 d1 d0 : Byte) : (decodePayload h (BitVec.ofNat 4 1) [k, s, g3, g2, g1, g0, d1, d0]).getD
        (.receiveError .length) = .holdSetArrival (.received h (.len8 k s (word32 g3 g2 g1 g0) (word16 d1 d0))) := rfl
    simp only [holdSetBytes, bytes4, bytes2, List.cons_append, List.nil_append, hread, word32_extract, word16_extract]

theorem decodeFrame_holdLift (h : Header) (k : Byte) :
    decodeFrame (frameBytes h 2 [k]) = .holdLiftArrival (.received h k) := by
  rw [decodeFrame_frameBytes h (by omega) (Nat.le_of_ble_eq_true rfl) rfl]; rfl

theorem decodeFrame_offer (h : Header) (c m : Byte) (v : Word32) :
    decodeFrame (frameBytes h 3 ([c] ++ bytes4 v ++ [m])) = .offerArrival (.received h ⟨c, v, m⟩) := by
  rw [decodeFrame_frameBytes h (by omega) (Nat.le_of_ble_eq_true rfl) rfl]
  have hread (v3 v2 v1 v0 : Byte) : (decodePayload h (BitVec.ofNat 4 3) [c, v3, v2, v1, v0, m]).getD
      (.receiveError .length) = .offerArrival (.received h ⟨c, word32 v3 v2 v1 v0, m⟩) := rfl
  simp only [bytes4, List.cons_append, List.nil_append, hread, word32_extract]

theorem decodeFrame_withdraw (h : Header) (c : Byte) :
    decodeFrame (frameBytes h 4 [c]) = .withdrawArrival (.received h c) := by
  rw [decodeFrame_frameBytes h (by omega) (Nat.le_of_ble_eq_true rfl) rfl]; rfl

theorem decodeFrame_tipped (h : Header) (c m f g : Byte) (v n : Word32) :
    decodeFrame (frameBytes h 5 ([c] ++ bytes4 v ++ [m, f, g] ++ bytes4 n)) =
      .tippedArrival (.received h ⟨c, v, m, f, g, n⟩) := by
  rw [decodeFrame_frameBytes h (by omega) (Nat.le_of_ble_eq_true rfl) rfl]
  have hread (v3 v2 v1 v0 t3 t2 t1 t0 : Byte) :
      (decodePayload h (BitVec.ofNat 4 5) [c, v3, v2, v1, v0, m, f, g, t3, t2, t1, t0]).getD (.receiveError .length) =
        .tippedArrival (.received h ⟨c, word32 v3 v2 v1 v0, m, f, g, word32 t3 t2 t1 t0⟩) := rfl
  simp only [bytes4, List.cons_append, List.nil_append, hread, word32_extract]

theorem decodeFrame_drawn (h : Header) (g f : Byte) (n : Word32) :
    decodeFrame (frameBytes h 6 ([g] ++ bytes4 n ++ [f])) = .drawnArrival (.received h ⟨g, n, f⟩) := by
  rw [decodeFrame_frameBytes h (by omega) (Nat.le_of_ble_eq_true rfl) rfl]
  have hread (t3 t2 t1 t0 : Byte) : (decodePayload h (BitVec.ofNat 4 6) [g, t3, t2, t1, t0, f]).getD
      (.receiveError .length) = .drawnArrival (.received h ⟨g, word32 t3 t2 t1 t0, f⟩) := rfl
  simp only [bytes4, List.cons_append, List.nil_append, hread, word32_extract]

theorem decodeFrame_surface (h : Header) (d : Word16) (q : Byte) :
    decodeFrame (frameBytes h 7 (bytes2 d ++ [q])) = .surfaceArrival (.received h ⟨d, q⟩) := by
  rw [decodeFrame_frameBytes h (by omega) (Nat.le_of_ble_eq_true rfl) rfl]
  have hread (d1 d0 : Byte) : (decodePayload h (BitVec.ofNat 4 7) [d1, d0, q]).getD (.receiveError .length) =
      .surfaceArrival (.received h ⟨word16 d1 d0, q⟩) := rfl
  simp only [bytes2, List.cons_append, List.nil_append, hread, word16_extract]

theorem decodeFrame_state (h : Header) (p : StatePayload) :
    decodeFrame (frameBytes h 8 (stateBytes p)) = .stateArrival (.received h p) := by
  have hread (l : List Byte) : decodePayload h (BitVec.ofNat 4 8) l =
      (decodeState l).map (fun p => .stateArrival (.received h p)) := rfl
  rw [decodeFrame_frameBytes h (by omega) (Nat.le_of_ble_eq_true rfl) rfl, hread, decodeState_stateBytes]
  rfl

/-- A received arrival is read back with its header and every field. -/
theorem decodeFrame_encodeFrame (i : Instr) (frame : List Byte) (h : encodeFrame i = some frame) :
    decodeFrame frame = i := by
  cases i with
  | holdSetArrival f =>
    cases f with
    | own => cases h
    | received header p => obtain rfl := Option.some.inj h; exact decodeFrame_holdSet header p
  | holdLiftArrival f =>
    cases f with
    | own => cases h
    | received header k => obtain rfl := Option.some.inj h; exact decodeFrame_holdLift header k
  | offerArrival f =>
    cases f with
    | own => cases h
    | received header p => obtain rfl := Option.some.inj h; exact decodeFrame_offer header ..
  | withdrawArrival f =>
    cases f with
    | own => cases h
    | received header c => obtain rfl := Option.some.inj h; exact decodeFrame_withdraw header c
  | tippedArrival f =>
    cases f with
    | own => cases h
    | received header p => obtain rfl := Option.some.inj h; exact decodeFrame_tipped header ..
  | drawnArrival f =>
    cases f with
    | own => cases h
    | received header p => obtain rfl := Option.some.inj h; exact decodeFrame_drawn header ..
  | surfaceArrival f =>
    cases f with
    | own => cases h
    | received header p => obtain rfl := Option.some.inj h; exact decodeFrame_surface header ..
  | stateArrival f =>
    cases f with
    | own => cases h
    | received header p => obtain rfl := Option.some.inj h; exact decodeFrame_state header p
  | _ => exact nomatch (show none = some frame from h)

/-! ### Own frames -/

/-- An own frame's bytes are those of its header, kind and payload. -/
theorem frame_bytes_eq (f : Frame) (station seq : Nat) :
    f.bytes station seq =
      frameBytes ⟨BitVec.ofNat 2 f.cls, BitVec.ofNat 4 station, BitVec.ofNat 8 seq⟩ (kindCode f.kind) f.payload := by
  simp only [Frame.bytes, frameBytes, headerBytes, BitVec.ofNat_toNat, BitVec.setWidth_eq]

theorem toNat_ofNat_lt {w n : Nat} (h : n < 2 ^ w) : (BitVec.ofNat w n).toNat = n := by
  rw [BitVec.toNat_ofNat, Nat.mod_eq_of_lt h]

theorem causesOf_causesCode (c : Causes) : causesOf (BitVec.ofNat 8 (causesCode c)) = c := by
  rcases c with ⟨o, r, l, g, d⟩
  revert o r l g d
  decide

theorem isEmpty_eq_false {c : Causes} (h : c ≠ Causes.none) : c.isEmpty = false := by
  rcases c with ⟨o, r, l, g, d⟩
  revert o r l g d
  decide

theorem flags_read (a b c : Bool) :
    (BitVec.ofNat 8 (bitSet [a, b, c])).getLsbD 0 = a ∧ (BitVec.ofNat 8 (bitSet [a, b, c])).getLsbD 1 = b ∧
    (BitVec.ofNat 8 (bitSet [a, b, c])).getLsbD 2 = c := by
  revert a b c
  decide

theorem moistureRead_code (m : Moisture) : moistureRead (BitVec.ofNat 8 (moistureCode m)) = m := by cases m <;> rfl

/-- The payload that a peer receives of a hold entry. -/
def holdSetPayload : HoldBody → HoldSetPayload
  | .halt c => .len2 1 (BitVec.ofNat 8 (causesCode c))
  | .entry => .len1 2
  | .ranging gap surface => .len8 3 1 (BitVec.ofInt 32 gap) (BitVec.ofNat 16 surface)
  | .starved g => .len3 3 2 (BitVec.ofNat 8 (gateCode g))

theorem holdPayload_eq (b : HoldBody) : holdPayload b = holdSetBytes (holdSetPayload b) := by cases b <;> rfl

theorem holdBodyOf_payload {b : HoldBody} (h : (Frame.holdSet b).InRange) : holdBodyOf (holdSetPayload b) = some b := by
  cases b with
  | halt c =>
    have hc : c.isEmpty = false := isEmpty_eq_false h
    rw [holdSetPayload, holdBodyOf, causesOf_causesCode, if_pos ⟨rfl, hc⟩]
  | entry => rfl
  | ranging gap surface =>
    obtain ⟨hlow, hhigh, hs⟩ : -2147483648 ≤ gap ∧ gap < 2147483648 ∧ surface < 65536 := h
    have hgap : (BitVec.ofInt 32 gap).toInt = gap := by
      rw [BitVec.toInt_ofInt]; exact Int.bmod_eq_of_le (by omega) (by omega)
    rw [holdSetPayload, holdBodyOf, if_pos ⟨rfl, rfl⟩, hgap, toNat_ofNat_lt hs]
  | starved g => cases g <;> rfl

theorem qualityOf_code {q : Quality} (h : ∀ n, q = .numeric n → 1 ≤ n ∧ n ≤ 15) :
    qualityOf (BitVec.ofNat 8 (qualityCode q)) = some q := by
  cases q with
  | manual => rfl
  | numeric n =>
    obtain ⟨hlow, hhigh⟩ := h n rfl
    rw [qualityOf, qualityCode, toNat_ofNat_lt (by omega), if_neg (by omega), if_pos ⟨hlow, hhigh⟩]

/-- A peer takes from an own frame's bytes what the frame says. -/
theorem readAs_frameBytes (h : Header) (f : Frame) (hf : f.InRange) :
    ReadAs h (decodeFrame (frameBytes h (kindCode f.kind) f.payload)) f := by
  cases f with
  | holdSet b =>
    refine ⟨holdSetPayload b, ?_, holdBodyOf_payload hf⟩
    rw [Frame.payload, holdPayload_eq]
    exact decodeFrame_holdSet h _
  | holdLift kind => exact ⟨_, decodeFrame_holdLift h _, by cases kind <;> rfl⟩
  | offer cls volume moisture =>
    obtain ⟨hc, hv⟩ : cls < 256 ∧ volume < 4294967296 := hf
    exact ⟨_, decodeFrame_offer h _ _ _, toNat_ofNat_lt hc, toNat_ofNat_lt hv, moistureRead_code moisture⟩
  | withdraw cause => exact ⟨_, decodeFrame_withdraw h _, by cases cause <;> rfl⟩
  | tipped load generation total =>
    obtain ⟨hc, hv, hg, ht⟩ : load.cls < 256 ∧ load.volume < 4294967296 ∧ generation < 256 ∧ total < 4294967296 := hf
    obtain ⟨hoversize, hestimated, hunauthorised⟩ := flags_read load.oversize load.estimated load.unauthorised
    refine ⟨_, decodeFrame_tipped h _ _ _ _ _ _, ?_, toNat_ofNat_lt hg, toNat_ofNat_lt ht⟩
    simp only [tippedLoad, toNat_ofNat_lt (w := 8) hc, toNat_ofNat_lt (w := 32) hv, moistureRead_code, flagsCode, hoversize, hestimated,
      hunauthorised]
  | drawn generation total a b d =>
    obtain ⟨hg, ht⟩ : generation < 256 ∧ total < 4294967296 := hf
    exact ⟨_, decodeFrame_drawn h _ _ _, toNat_ofNat_lt hg, toNat_ofNat_lt ht, flags_read a b d⟩
  | surface depth q =>
    obtain ⟨hd, hq⟩ : depth < 65536 ∧ ∀ n, q = .numeric n → 1 ≤ n ∧ n ≤ 15 := hf
    exact ⟨_, decodeFrame_surface h _ _, toNat_ofNat_lt hd, qualityOf_code hq⟩
  | state p =>
    cases p with
    | none => exact absurd rfl hf
    | some p => exact decodeFrame_state h p

/-- Settles O56. -/
theorem framesRoundTrip : Obligations.FramesRoundTrip :=
  ⟨decodeFrame_encodeFrame, fun f station seq hf _ _ => by
    rw [frame_bytes_eq]; exact readAs_frameBytes _ f hf⟩

/-! ## Words -/

/-- Settles O57: the words are those of the encoders, so that they are read back for every operand. -/
theorem wordsRead : Obligations.WordsRead := by
  refine ⟨by decide +kernel, by decide +kernel, fun token => ?_, fun cause seq => ?_, by decide, by decide⟩
  · exact messagesRoundTrip (.breakRenew token) _ rfl rfl
  · have hfirst : (1#2 ++ 2#4 ++ (BitVec.ofNat 4 4).extractLsb' 2 2 : Byte) = 0x49#8 := by decide
    have hsecond : ((BitVec.ofNat 4 4).extractLsb' 0 2 ++ BitVec.ofNat 6 1 : Byte) = 0x01#8 := by decide
    have hbytes : frameBytes ⟨1#2, 2#4, seq⟩ 4 [cause] =
        [0x49#8, 0x01#8, seq, cause] ++ bytes2 (crc16 [0x49#8, 0x01#8, seq, cause]) := by
      simp only [frameBytes, headerBytes, BitVec.ofNat_toNat, BitVec.setWidth_eq, List.length_singleton, hfirst, hsecond,
        List.cons_append, List.nil_append]
    rw [← hbytes]
    exact decodeFrame_withdraw ⟨1#2, 2#4, seq⟩ cause

/-! ## Reset -/

/-- Settles O3. -/
theorem resetIsColdStart : Obligations.ResetIsColdStart := by
  refine ⟨rfl, rfl, rfl, rfl, rfl, rfl, rfl, rfl, rfl, rfl, fun i => ?_, rfl, rfl, rfl, rfl, rfl, rfl, rfl, ?_⟩
  · simp [State.conditioned, State.reset, Field.restarted]
  have hasleep : State.reset.Asleep := ⟨rfl, rfl, rfl, rfl, rfl, rfl, rfl, rfl, rfl, fun g => by cases g <;> rfl⟩
  exact ⟨Column.fits_of_empty rfl, ⟨⟨rfl, nofun⟩, ⟨rfl, nofun⟩⟩, ⟨List.nodup_nil, nofun⟩,
    ⟨fun _ => ⟨rfl, nofun, nofun⟩, Nat.zero_le _, Nat.zero_le _, Nat.zero_le _, Nat.zero_le _, Nat.zero_le _⟩,
    ((asleep_iff _).mp hasleep).1, hasleep.holdsKept, hasleep.tipSafe, hasleep.drawSafe, nofun⟩

end Sys2Proof.Machine
end

section
/-! STARTING's answer, what ends a tip, and what the truck and the breaker's park input do. -/

namespace Sys2Proof.Machine

/-! ## Requests in STARTING -/

theorem request_busy {s : State} (hm : s.mode = .starting) (hp : s.port.restartPending = false) (code : Nat)
    (tests : List (Bool × AnswerBody)) (body : AnswerBody) (effect : State → State) :
    (.next (s.request code tests body effect) : Result) = .next (s.giveAnswer code .busy) :=
  congrArg Host.Outcome.next (request_starting code tests body effect s hp hm)

/-- Settles O12: whatever the request's tests, the port answers for the mode first. -/
theorem startingAnswersBusy : Obligations.StartingAnswersBusy := by
  intro c code fields s hf hw hlow hhigh hstatus hm hp hkind
  cases c with
  | tip | tipCancel | breakWork | breakRenew | breakStop | drawRenew | drawStop | gateReset | halt | haltRelease | entry
  | entryRelease | hangupClear | seed | events | eventAck | eventEnable | profileCommit | restart =>
    obtain ⟨rfl, -⟩ := Prod.mk.inj (Option.some.inj hf)
    exact request_busy hm hp ..
  | draw gate mode target =>
    cases target <;> obtain ⟨rfl, -⟩ := Prod.mk.inj (Option.some.inj hf) <;> exact request_busy hm hp ..
  | status first => cases first <;> obtain ⟨rfl, -⟩ := Prod.mk.inj (Option.some.inj hf) <;> exact absurd rfl hstatus
  | report kind =>
    obtain ⟨rfl, -⟩ := Prod.mk.inj (Option.some.inj hf)
    show execReport kind s = _
    unfold execReport
    split <;> exact request_busy hm hp ..
  | reportNext =>
    obtain ⟨rfl, -⟩ := Prod.mk.inj (Option.some.inj hf)
    show execReportNext s = _
    unfold execReportNext
    split
    · split <;> exact request_busy hm hp ..
    · exact request_busy hm hp ..
  | profileLoad offset bytes =>
    obtain ⟨rfl, -⟩ := Prod.mk.inj (Option.some.inj hf)
    show execProfileLoad offset bytes s = _
    unfold execProfileLoad
    rw [if_pos (show sliceLengthOk bytes = true from hw)]
    exact request_busy hm hp ..
  | unknownRequest w =>
    cases w with
    | code k =>
      obtain ⟨rfl, -⟩ := Prod.mk.inj (Option.some.inj hf)
      have hk : UnknownMessage.ok (.code k) = true := hw
      simp only [UnknownMessage.ok, Bool.or_eq_true, decide_eq_true_eq] at hk
      omega
    | reportKind k => exact absurd rfl (hkind k)
  | _ => exact nomatch (show none = some (code, fields) from hf)

/-! ## Events at a TIP station -/

/-- At a TIP station an event that leaves the tip not OFFERED is what it does. -/
theorem event_not_offered {act : State → State} {s t : State} (h : act s = t) (hr : t.straps.role = .tip)
    (ho : t.tip.stage.isOffered = false) : event act s = .next t := by
  rw [event, h, inform_not_offered hr ho]

/-- An event that changes neither column, reservations nor wet status is what it does. -/
theorem event_same {act : State → State} {s t : State} (h : act s = t) (hc : t.column = s.column)
    (hr : t.reservations = s.reservations) (hw : t.watch.wet = s.watch.wet) : event act s = .next t := by
  rw [event, h, inform_same hc hr hw]

theorem edge_taken {fn : InputFunction} {i : InputNo} {active : Bool} {s : State} (act : State → State)
    (hfn : inputFunction s.straps.role i = fn) (he : s.EdgeTo i active) :
    s.edge fn i active act = act (s.takeEdge i active) := if_pos ⟨hfn, he⟩

theorem whenLive_taken {s : State} (act : State → State) (h : s.Live) : s.whenLive act = act s :=
  if_pos ((live_iff s).mpr h)

theorem takeEdge_live {s : State} (i : InputNo) (active : Bool) (h : s.Live) : (s.takeEdge i active).Live := h

/-! ## Withdrawals and counts -/

theorem withdrawTip_role (cause : WithdrawCause) (s : State) : (s.withdrawTip cause).straps.role = s.straps.role :=
  congrArg Straps.role (outer_straps (withdrawTip_outer cause s))

theorem hasFreshOffer_iff (s : State) :
    s.line.hasFreshOffer = true ↔ ∃ q ∈ s.line.queue, q.frame.kind = .offer ∧ q.started = false := by
  simp [Line.hasFreshOffer, QueuedFrame.isFreshOffer]

theorem not_hasFreshOffer {s : State} (h : ∀ q ∈ s.line.queue, q.frame.kind = .offer → q.started = true) :
    ¬s.line.hasFreshOffer = true := by
  rw [hasFreshOffer_iff]
  rintro ⟨q, hq, hk, hf⟩
  rw [h q hq hk] at hf
  cases hf

theorem withdrawTip_isolated {s : State} {load : Load} (h : s.tip.stage = .requested load ∨ s.tip.stage = .offered load)
    (hi : s.line.state = .isolated) (cause : WithdrawCause) :
    s.withdrawTip cause = { tipOver (.withdrawn cause) load s with
      reservations := s.reservations.filter (fun r => r.station != s.own) } := by
  obtain h | h := h
  · rw [State.withdrawTip, h]; exact if_pos hi
  · rw [State.withdrawTip, h]; exact if_pos hi

theorem withdrawTip_requested {s : State} {load : Load} (h : s.tip.stage = .requested load)
    (hi : s.line.state ≠ .isolated) (cause : WithdrawCause) :
    s.withdrawTip cause = (tipOver (.withdrawn cause) load s).revokeOffer cause := by
  rw [State.withdrawTip, h]; exact if_neg hi

theorem withdrawTip_offered {s : State} {load : Load} (h : s.tip.stage = .offered load)
    (hi : s.line.state ≠ .isolated) (cause : WithdrawCause) :
    s.withdrawTip cause = (tipOver (.withdrawn cause) load s).handOver (.withdraw cause) := by
  rw [State.withdrawTip, h]; exact if_neg hi

theorem withdrawTip_not_open {s : State} (h : s.tip.stage.isOpen = false) (cause : WithdrawCause) :
    s.withdrawTip cause = s := by
  unfold State.withdrawTip
  split
  · rename_i hs; rw [hs] at h; cases h
  · rename_i hs; rw [hs] at h; cases h
  all_goals rfl

theorem firstFailing_tipCancel (s : State) : firstFailing s.tipCancelTests = tipCancelRefusal s := by
  unfold State.tipCancelTests tipCancelRefusal
  refine firstFailing_step (beq_iff_not_ne s.straps.role .tip) <| firstFailing_step (live_iff_not_not s) ?_
  cases s.tip.stage <;> rfl

theorem role_of_tipCancelRefusal_none {s : State} (h : tipCancelRefusal s = none) : s.straps.role = .tip :=
  Classical.not_not.mp (passed_of_ite_none h).1

theorem exec_tipCancel {s : State} (h : s.TakesRequests) :
    exec .tipCancel s = .next (answerWith 2 (tipCancelRefusal s) .accepted (s.withdrawTip .cancel) s) :=
  congrArg Host.Outcome.next <| request_answered h (firstFailing_tipCancel s) fun hnone =>
    inform_not_offered ((withdrawTip_role _ s).trans (role_of_tipCancelRefusal_none hnone)) (withdrawTip_isOffered _ s)

theorem countLoad_eq (load : Load) (s : State) : s.countLoad load = loadCounted load s := rfl

theorem countLoad_not_offered (load : Load) (s : State) : (s.countLoad load).tip.stage.isOffered = false :=
  handOver_isOffered _ _ rfl

theorem countLoad_role (load : Load) (s : State) : (s.countLoad load).straps.role = s.straps.role :=
  congrArg Straps.role (outer_straps (countLoad_outer load s))

/-- Settles O14: a withdrawal case by tip state and line state, then the cancel's tests and the two timers. -/
theorem tipWithdrawnOrCounted : Obligations.TipWithdrawnOrCounted := by
  refine ⟨fun cause s => ⟨fun load h hi => withdrawTip_isolated h hi cause, fun load h hi hq => ?_,
    fun load h hi hq => ?_, fun load h hi => withdrawTip_offered h hi cause, fun h => withdrawTip_not_open h cause⟩,
    fun s h => exec_tipCancel h, fun load s hr => ⟨fun h ht => ?_, fun h ht => ?_⟩⟩
  · rw [withdrawTip_requested h hi, State.revokeOffer]
    exact if_pos ((hasFreshOffer_iff s).mpr hq)
  · rw [withdrawTip_requested h hi, State.revokeOffer]
    exact if_neg (not_hasFreshOffer hq)
  · refine event_not_offered ?_ ((withdrawTip_role _ s).trans hr) (withdrawTip_isOffered _ s)
    rw [State.offerRunsOut, h]; exact if_pos ht
  · refine event_not_offered ?_ ((countLoad_role load s).trans hr) (countLoad_not_offered load s)
    rw [State.settleRunsOut, h]; exact if_pos ht

/-! ## The truck (R82, R86) -/

theorem enterTipping_eq (load : Load) (s : State) : s.enterTipping load = truckOn load s := by
  unfold State.enterTipping truckOn State.loadOnGrizzly State.breakerParked
  simp only [beq_iff_eq]; rfl

theorem truckOn_not_offered (load : Load) (s : State) : (truckOn load s).tip.stage.isOffered = false := rfl

/-- The truck's edge, where the station is live. -/
theorem exec_truck {s t : State} {active : Bool} {act : State → State} (hr : s.straps.role = .tip) (hl : s.Live)
    (he : s.EdgeTo truckInput active) (h : act (s.takeEdge truckInput active) = t) (htr : t.straps.role = .tip)
    (ho : t.tip.stage.isOffered = false) :
    event (State.edge .truckPresent truckInput active (State.whenLive act)) s = .next t := by
  refine event_not_offered ?_ htr ho
  rw [edge_taken _ (by rw [hr]; rfl) he, whenLive_taken _ (takeEdge_live _ _ hl), h]

/-- Settles O15. -/
theorem truckEdges : Obligations.TruckEdges := by
  refine ⟨fun s hr hl he => ?_, fun s hr hl he => ?_⟩
  · have hrole : (s.takeEdge truckInput true).straps.role = .tip := hr
    refine ⟨fun load h => ?_, fun load h hq => ?_, fun load h hq => ?_, fun h => ?_, fun load h => ?_, fun load h => ?_⟩
    · refine exec_truck hr hl he ?_ hr rfl
      rw [State.truckArrives, show (s.takeEdge truckInput true).tip.stage = _ from h]
      exact enterTipping_eq _ _
    · refine exec_truck hr hl he ?_ hr rfl
      rw [State.truckArrives, show (s.takeEdge truckInput true).tip.stage = _ from h]
      dsimp only
      rw [enterTipping_eq]
      exact if_pos ((hasFreshOffer_iff s).mpr hq)
    · refine ⟨causeAt (Config.overtakenCause s.openReads), exec_truck hr hl he ?_ ?_ ?_⟩
      · rw [State.truckArrives, show (s.takeEdge truckInput true).tip.stage = _ from h]
        dsimp only
        rw [enterTipping_eq]
        exact if_neg (not_hasFreshOffer hq)
      · exact (congrArg Straps.role (outer_straps (handOver_outer _ _))).trans hr
      · exact handOver_isOffered _ _ rfl
    · refine exec_truck hr hl he ?_ hr rfl
      rw [State.truckArrives, show (s.takeEdge truckInput true).tip.stage = _ from h]
      exact enterTipping_eq _ _
    · refine exec_truck hr hl he ?_ hr ?_
      · rw [State.truckArrives, show (s.takeEdge truckInput true).tip.stage = _ from h]
      · rw [show (s.takeEdge truckInput true).tip.stage = _ from h]; rfl
    · refine exec_truck hr hl he ?_ ?_ rfl
      · rw [State.truckArrives, show (s.takeEdge truckInput true).tip.stage = _ from h]
        exact enterTipping_eq _ _
      · exact (countLoad_role load _).trans hr
  · refine ⟨fun load h => ?_, fun h => ?_⟩
    · refine exec_truck hr hl he ?_ hr rfl
      rw [State.truckLeaves, show (s.takeEdge truckInput false).tip.stage = _ from h]
      simp only [State.breakerParked, beq_iff_eq]; rfl
    · have hstays : (s.takeEdge truckInput false).truckLeaves = s.takeEdge truckInput false := by
        unfold State.truckLeaves
        split
        · rename_i load hs; exact absurd hs (h load)
        all_goals rfl
      refine event_same (t := s.takeEdge truckInput false) ?_ rfl rfl rfl
      rw [edge_taken _ (by rw [hr]; rfl) he, whenLive_taken _ (takeEdge_live _ _ hl), hstays]

/-! ## The breaker's park input and timers (R99 to R101) -/

theorem parkBreaker_keeps (s : State) :
    s.parkBreaker.column = s.column ∧ s.parkBreaker.reservations = s.reservations ∧ s.parkBreaker.watch = s.watch :=
  informBreakerIn_keeps (s.enterBreaker .parked)

theorem enterBreaker_fault (c : BreakerFault) (s : State) :
    s.enterBreaker (.fault c) = State.mark .fault (breakerTo (.fault c) s) := rfl

theorem informBreakerOut_role (s : State) : s.informBreakerOut.straps.role = s.straps.role :=
  congrArg Straps.role (outer_straps (informBreakerOut_outer s))

/-- The park input's edge, in every mode. -/
theorem edge_park {s : State} {active : Bool} (hr : s.straps.role = .tip) (he : s.EdgeTo parkInput active)
    (act : State → State) :
    s.edge .breakerPark parkInput active act = act (s.takeEdge parkInput active) :=
  edge_taken act (by rw [hr]; rfl) he

theorem boomParks_home {s : State} (h : s.breaker.state = .returning ∨ ∃ c, s.breaker.state = .fault c) :
    s.boomParks = breakerHome s := by
  unfold State.boomParks
  obtain h | ⟨c, h⟩ := h <;> rw [h] <;> exact parkBreaker_eq s

theorem boomParks_stays {s : State} (h : s.breaker.state = .parked ∨ ∃ b, s.breaker.state = .working b) :
    s.boomParks = s := by
  unfold State.boomParks
  obtain h | ⟨b, h⟩ := h <;> rw [h]

theorem boomLeaves_parked {s : State} (h : s.breaker.state = .parked) :
    s.boomLeaves = (State.mark .fault (breakerTo (.fault .parkLost) s)).informBreakerOut := by
  rw [State.boomLeaves, h]; rfl

theorem boomLeaves_stays {s : State} (h : s.breaker.state ≠ .parked) : s.boomLeaves = s := by
  unfold State.boomLeaves
  split
  · contradiction
  all_goals rfl

/-- Settles O17. -/
theorem breakerInputAndTimers : Obligations.BreakerInputAndTimers := by
  refine ⟨fun s hr => ⟨fun he => ⟨fun h => ?_, fun h => ?_⟩, fun he => ⟨fun h => ?_, fun h => ?_⟩⟩,
    fun s hr => ⟨fun b h ht => ?_, fun h ht => ?_⟩⟩
  · obtain ⟨hc, hres, hw⟩ := parkBreaker_keeps (s.takeEdge parkInput true)
    rw [← parkBreaker_eq]
    refine event_same ?_ hc hres (congrArg Watch.wet hw)
    rw [edge_park hr he, boomParks_home (s := s.takeEdge parkInput true) h, parkBreaker_eq]
  · refine event_same (t := s.takeEdge parkInput true) ?_ rfl rfl rfl
    rw [edge_park hr he, boomParks_stays (s := s.takeEdge parkInput true) h]
  · rw [← informBreakerOut_eq]
    refine event_not_offered ?_ ((informBreakerOut_role _).trans hr) (informBreakerOut_not_offered _)
    rw [edge_park hr he, boomLeaves_parked (s := s.takeEdge parkInput false) h]
  · refine event_same (t := s.takeEdge parkInput false) ?_ rfl rfl rfl
    rw [edge_park hr he, boomLeaves_stays (s := s.takeEdge parkInput false) h]
  · obtain ⟨hc, hres, hw⟩ := endBreakerWork_keeps .renewalLapse s
    rw [← endBreakerWork_eq h]
    exact event_same (if_pos ht) hc hres (congrArg Watch.wet hw)
  · refine event_same ?_ rfl rfl rfl
    rw [State.returnRunsOut, h]
    exact if_pos ht

end Sys2Proof.Machine
end

section
/-! The hold list's changes in the rules' own terms, the end of a draw, a gate's fault, and a gate's timers. -/

namespace Sys2Proof.Machine

/-! ## Holds (R57, R59, R67, R72 to R74) -/

theorem endBreakerWork_hold (s : State) : s.endBreakerWork .hold = workHeld s := by
  unfold workHeld
  cases hs : s.breaker.state with
  | working token => rw [endBreakerWork_eq hs, if_neg (by simp [State.workToken, hs])]
  | parked | returning | fault c => rw [if_pos (by simp [State.workToken, hs]), State.endBreakerWork, hs]

theorem holdEffects_eq (holder : Nat) (kind : HoldKind) (s : State) : s.holdEffects holder kind = holdFelt holder kind s := by
  unfold State.holdEffects holdFelt
  cases s.straps.role with
  | draw => rfl
  | tip =>
    cases kind with
    | halt => exact endBreakerWork_hold _
    | entry =>
      simp only [State.tipHoldEffects]
      split
      · exact endBreakerWork_hold _
      · rfl
    | hangup => rfl

theorem reportHold_eq (holder : Nat) (f : Frame) (s : State) : s.reportHold holder f = holdReported holder f s := by
  unfold State.reportHold State.queueHold holdReported
  split
  next h => simp only [h, true_and]
  next h => exact (if_neg fun hk => h hk.1).symm

theorem holdChanged_eq (holder : Nat) (body : HoldBody) (l : List Hold) (s : State) :
    s.holdChanged holder body l = holdTaken holder body l s := by
  rw [State.holdChanged, holdEffects_eq, reportHold_eq]; rfl

theorem enterHold_new {holder : Nat} {body : HoldBody} {s : State}
    (h : ∀ x ∈ s.holds, ¬(x.holder = holder ∧ x.body.kind = body.kind)) :
    s.enterHold holder body = holdTaken holder body (s.holds ++ [⟨holder, s.time, body⟩]) s := by
  rw [State.enterHold, (holdOf_none_iff _ _ _).mpr h]
  exact holdChanged_eq ..

theorem replaceHold_eq (holder : Nat) (body : HoldBody) (l : List Hold) :
    replaceHold holder body l =
      l.map (fun h => if h.holder = holder ∧ h.body.kind = body.kind then { h with body := body } else h) := by
  unfold replaceHold
  refine List.map_congr_left fun h _ => ?_
  simp only [isOf_iff]

theorem enterHold_changed {holder : Nat} {body : HoldBody} {s : State} {h : Hold}
    (hf : s.holdOf holder body.kind = some h) (hb : h.body ≠ body) :
    s.enterHold holder body = holdTaken holder body
      (s.holds.map (fun h => if h.holder = holder ∧ h.body.kind = body.kind then { h with body := body } else h)) s := by
  rw [State.enterHold, hf]
  dsimp only
  rw [if_neg hb, holdChanged_eq, replaceHold_eq]

theorem enterHold_same {holder : Nat} {body : HoldBody} {s : State} {h : Hold}
    (hf : s.holdOf holder body.kind = some h) (hb : h.body = body) : s.enterHold holder body = s := by
  rw [State.enterHold, hf]
  exact if_pos hb

theorem holdOf_isSome_iff (holder : Nat) (kind : HoldKind) (s : State) :
    (s.holdOf holder kind).isSome = true ↔ ∃ h ∈ s.holds, h.holder = holder ∧ h.body.kind = kind := by
  simp only [State.holdOf, List.find?_isSome, isOf_iff]

theorem removeHold_eq (holder : Nat) (kind : HoldKind) (s : State) :
    s.removeHold holder kind =
      if ∃ h ∈ s.holds, h.holder = holder ∧ h.body.kind = kind then holdGone holder kind s else s := by
  unfold State.removeHold
  simp only [holdOf_isSome_iff, reportHold_eq]
  rfl

/-- Settles O25: by whether the list has an entry of the holder and kind, and whether it is the given one. -/
theorem holdListChanges : Obligations.HoldListChanges :=
  ⟨fun _ _ _ => ⟨enterHold_new, fun _ => enterHold_changed, fun _ => enterHold_same⟩, removeHold_eq⟩

/-! ## The end of a draw (R111, R112, R115) -/

theorem startWetRest_mark (wet : Bool) (k : EventKind) (s : State) :
    (s.mark k).startWetRest wet = State.mark k (s.startWetRest wet) := by
  cases wet <;> rfl

theorem drawCompleted_eq (wet : Bool) (s : State) :
    ((s.mark .drawEnd).startWetRest wet).formDrawnIfAdvanced = drawCompleted wet s := by
  rw [startWetRest_mark]
  cases wet <;> rfl

theorem enterClosed_eq (g : Gate) (s : State) :
    s.enterClosed g = drawCompleted (s.gate g).wetRestricted (s.withGate g (GateSeq.close s.time)) := by
  rw [State.enterClosed, drawCompleted_eq]; rfl

theorem gate_withGate (g : Gate) (f : GateSeq → GateSeq) (s : State) : (s.withGate g f).gate g = f (s.gate g) :=
  PerGate.get_modify_same g f s.gates

theorem endCause_wetRestricted (cause : EndCause) (q : GateSeq) :
    (GateSeq.endCause cause q).wetRestricted = q.wetRestricted := by
  unfold GateSeq.endCause GateSeq.wetRestricted
  cases q.record <;> rfl

theorem close_endCause (cause : EndCause) (time : Nat) (q : GateSeq) :
    GateSeq.close time (GateSeq.endCause cause q) = closedAfter cause time q := by
  unfold GateSeq.close GateSeq.endCause closedAfter
  cases q.record <;> rfl

theorem close_beginClosing (time ms : Nat) (q : GateSeq) :
    GateSeq.close time (GateSeq.beginClosing ms q) = GateSeq.close time q := rfl

/-- The watch unit replaced is no gate's business. -/
theorem withGate_setWatch (g : Gate) (f : GateSeq → GateSeq) (w : Watch) (s : State) :
    (s.setWatch w).withGate g f = (s.withGate g f).setWatch w := rfl

theorem windowLeft_opened {g : Gate} {s : State} (h : (s.gate g).state = .opened) :
    (s.stopWindow g) = s.setWatch (windowLeft g s) := by
  rw [windowLeft, if_pos h]; rfl

theorem windowLeft_other {g : Gate} {s : State} (h : (s.gate g).state ≠ .opened) : windowLeft g s = s.watch :=
  if_neg h

theorem stopOpenWindow_eq (g : Gate) (s : State) : s.stopOpenWindow g = s.setWatch (windowLeft g s) := by
  unfold State.stopOpenWindow windowLeft
  split <;> rfl

/-- The closing stroke of a draw that has its end cause and stopped its window. -/
theorem beginClosing_eq (cause : EndCause) (g : Gate) (w : Watch) (s : State) :
    ((s.withGate g (GateSeq.endCause cause)).setWatch w).beginClosing g =
      if s.ProvenClosed g then
        drawCompleted (s.gate g).wetRestricted
          { s with gates := s.gates.modify g (closedAfter cause s.time), watch := w }
      else { s with gates := s.gates.modify g (closingAfter cause (s.prof.strokeLimit * 1000)), watch := w } := by
  have hstroke : ((s.withGate g (GateSeq.endCause cause)).setWatch w).updateGate g
      (GateSeq.beginClosing ((s.withGate g (GateSeq.endCause cause)).setWatch w).strokeMs) =
      (s.withGate g (closingAfter cause (s.prof.strokeLimit * 1000))).setWatch w := by
    rw [updateGate_eq_withGate, withGate_setWatch, withGate_withGate]; rfl
  have hclosed : ((s.withGate g (closingAfter cause (s.prof.strokeLimit * 1000))).setWatch w).enterClosed g =
      drawCompleted (s.gate g).wetRestricted ((s.withGate g (closedAfter cause s.time)).setWatch w) := by
    rw [enterClosed_eq, withGate_setWatch, withGate_withGate]
    refine congr (congrArg drawCompleted ?_) (congrArg (State.setWatch w) (congrArg (s.withGate g) (funext fun q => ?_)))
    · show ((s.withGate g (closingAfter cause (s.prof.strokeLimit * 1000))).gate g).wetRestricted = _
      rw [gate_withGate]; exact endCause_wetRestricted cause _
    · exact close_endCause cause s.time q
  unfold State.beginClosing
  dsimp only
  rw [hstroke, hclosed]
  exact ite_of_iff (provenClosed_iff g s) rfl rfl

theorem endDraw_eq {g : Gate} {s : State} (h : (s.gate g).Drawing) (cause : EndCause) :
    s.endDraw cause g = drawEnded cause g s := by
  unfold State.endDraw drawEnded
  obtain h | h | h := h
  · rw [if_pos (.inl h), windowLeft_other (by rw [h]; nofun), h]
    show (s.withGate g (GateSeq.endCause cause)).enterClosed g = _
    rw [enterClosed_eq, gate_withGate, endCause_wetRestricted, withGate_withGate]
    refine congrArg (drawCompleted _) (congrArg (s.withGate g) (funext fun q => ?_))
    exact close_endCause cause s.time q
  · rw [windowLeft_other (by rw [h]; nofun), h]
    refine (beginClosing_eq cause g s.watch s).trans (ite_of_iff ?_ rfl rfl)
    simp
  · rw [h]
    have hstop : (s.withGate g (GateSeq.endCause cause)).stopWindow g =
        (s.withGate g (GateSeq.endCause cause)).setWatch (windowLeft g s) := by
      rw [windowLeft, if_pos h]; rfl
    refine Eq.trans (congrArg (State.beginClosing g) hstop) ((beginClosing_eq cause g _ s).trans (ite_of_iff ?_ rfl rfl))
    simp

theorem endDraw_not_drawing {g : Gate} {s : State} (h : ¬(s.gate g).Drawing) (cause : EndCause) :
    s.endDraw cause g = s := by
  unfold State.endDraw
  cases hs : (s.gate g).state with
  | warning => exact absurd (.inl hs) h
  | opening => exact absurd (.inr (.inl hs)) h
  | opened => exact absurd (.inr (.inr hs)) h
  | closed | closing | fault c => rfl

theorem provenClosed_of_outer {s t : State} (h : t.outer = s.outer) (g : Gate) :
    t.provenClosed g = true ↔ s.ProvenClosed g := by
  rw [← provenClosed_iff]
  simp only [State.provenClosed, State.active, State.conditioned, outer_field h]

theorem failGate_eq (cause : GateFault) (g : Gate) (s : State) :
    s.failGate cause g =
      let t := State.mark .fault { s with gates := s.gates.modify g (faulted cause s.time), watch := windowLeft g s }
      if (s.gate g).state.inHand = true then drawCompleted (s.gate g).wetRestricted t else t := by
  have hfail : (s.stopOpenWindow g).updateGate g (GateSeq.fail cause s.time) =
      { s with gates := s.gates.modify g (faulted cause s.time), watch := windowLeft g s } := by
    rw [stopOpenWindow_eq]; rfl
  unfold State.failGate
  rw [hfail]
  dsimp only
  rw [drawCompleted_eq]; rfl

theorem enterFault_eq (cause : GateFault) (g : Gate) (s : State) : s.enterFault cause g = gateFaulted cause g s := by
  refine (ite_of_iff (provenClosed_of_outer (failGate_outer cause g s) g) rfl rfl).trans ?_
  rw [failGate_eq]; rfl

/-- Settles O20: the modifications of the gate's sequencer one after the other are the rule's one. -/
theorem drawEndsAndGateFaults : Obligations.DrawEndsAndGateFaults :=
  ⟨fun cause _ _ => ⟨fun h => endDraw_eq h cause, fun h => endDraw_not_drawing h cause⟩, enterFault_eq⟩

/-! ## The limit and receiver-ready inputs (R110, R112, R114, R120) -/

theorem massCause_eq (q : GateSeq) : q.massCause = massMet q := by
  unfold GateSeq.massCause massMet
  cases hm : q.mode with
  | none => cases q.wetCap <;> simp
  | some m => cases m <;> cases q.wetCap <;> simp

theorem bothLimits_of_edge (g : Gate) (s : State) :
    s.bothLimits g = (s.active (closedLimitInput g) && s.active (openLimitInput g)) := rfl

theorem active_takeEdge (i : InputNo) (active : Bool) (s : State) : (s.takeEdge i active).active i = active := by
  simp [State.takeEdge, State.setRaw, State.setConditioned, State.active, State.conditioned, State.setField]

theorem limitConflict_eq (g : Gate) (s : State) :
    s.limitConflict g = if (s.gate g).state.isFault = true then s else s.enterFault .limitConflict g := rfl

theorem closedLimitComes_eq {g : Gate} {s : State} (h : s.active (closedLimitInput g) = true) :
    s.closedLimitComes g =
      if s.active (openLimitInput g) = true then
        (if (s.gate g).state.isFault = true then s else s.enterFault .limitConflict g)
      else if (s.gate g).state = .closing then strokeDone g s else s := by
  unfold State.closedLimitComes
  rw [bothLimits_of_edge, h, Bool.true_and, limitConflict_eq, enterClosed_eq]
  rfl

theorem closedLimitGoes_eq (g : Gate) (s : State) :
    s.closedLimitGoes g =
      if (s.gate g).state = .closed ∨ (s.gate g).state = .warning then s.enterFault .gateDrift g else s := by
  unfold State.closedLimitGoes
  cases (s.gate g).state <;> simp

/-- Mass this draw is tested as it stood before OPEN. -/
theorem enterOpen_eq (g : Gate) (s : State) :
    s.enterOpen g = match massMet (s.gate g) with
      | some cause => (openEntered g s).endDraw cause g
      | none => openEntered g s := by
  have hopened : (s.updateGate g (fun q => { q with state := .opened, stroke := Timer.stopped })).startWindow g =
      openEntered g s := rfl
  have hmass : ((openEntered g s).gate g).massCause = massMet (s.gate g) := by
    rw [← massCause_eq]
    exact (congrArg GateSeq.massCause
      (gate_withGate g (fun q => { q with state := .opened, stroke := ⟨false, 0⟩ }) s)).trans rfl
  unfold State.enterOpen
  rw [hopened]
  dsimp only
  rw [hmass]
  cases massMet (s.gate g) <;> rfl

theorem openLimitComes_eq {g : Gate} {s : State} (h : s.active (openLimitInput g) = true) :
    s.openLimitComes g =
      if s.active (closedLimitInput g) = true then
        (if (s.gate g).state.isFault = true then s else s.enterFault .limitConflict g)
      else if (s.gate g).state = .opening then
        (match massMet (s.gate g) with
          | some cause => (openEntered g s).endDraw cause g
          | none => openEntered g s)
      else s := by
  unfold State.openLimitComes
  rw [bothLimits_of_edge, h, Bool.and_true, limitConflict_eq, enterOpen_eq]

/-- An edge of one of a gate's inputs at a DRAW station. -/
theorem exec_gateEdge {fn : InputFunction} {i : InputNo} {active : Bool} {s t : State} {act : State → State}
    (hfn : inputFunction s.straps.role i = fn) (he : s.EdgeTo i active) (h : act (s.takeEdge i active) = t) :
    event (State.edge fn i active act) s = .next (t.inform s) := by
  rw [event, edge_taken _ hfn he, h]

theorem exec_inputAlone {fn : InputFunction} {i : InputNo} {active : Bool} {s : State}
    (hfn : inputFunction s.straps.role i = fn) (he : s.EdgeTo i active) :
    event (State.edge fn i active id) s = .next (s.takeEdge i active) :=
  event_same (edge_taken id hfn he) rfl rfl rfl

/-- Settles O21, input by input. -/
theorem gateInputEdges : Obligations.GateInputEdges := by
  refine ⟨fun g s hr => ⟨fun he => ?_, fun he => ?_, fun he => ?_, fun he => ?_⟩, fun g s hr => ⟨fun hl he => ?_, fun he => ?_⟩⟩
  · exact exec_gateEdge (by rw [hr]; cases g <;> rfl) he (closedLimitComes_eq (active_takeEdge _ _ s))
  · exact exec_gateEdge (by rw [hr]; cases g <;> rfl) he (closedLimitGoes_eq g _)
  · exact exec_gateEdge (by rw [hr]; cases g <;> rfl) he (openLimitComes_eq (active_takeEdge _ _ s))
  · exact exec_inputAlone (by rw [hr]; cases g <;> rfl) he
  · exact exec_gateEdge (by rw [hr]; cases g <;> rfl) he (whenLive_taken _ (takeEdge_live _ _ hl))
  · exact exec_inputAlone (by rw [hr]; cases g <;> rfl) he

/-! ## The gate's timers (R48, R49, R54, R109, R113, R119) -/

theorem raiseStarved_eq (g : Gate) (s : State) : s.raiseStarved g = starvedRaised g s := by
  refine ite_of_iff_under (holdOf_iff .hangup s) (fun _ => rfl) fun hnone => ?_
  rw [enterHold_new]
  intro h hh hk
  exact hnone ⟨h, hh, hk.1, hk.2⟩

/-- Settles O22, timer by timer. -/
theorem gateTimersExpire : Obligations.GateTimersExpire := by
  refine fun g s hr => ⟨fun h ht => ?_, fun h ht => ?_, fun h ht => ?_, fun h ht hc => ?_, fun h ht hc => ?_, ?_⟩
  · refine event_same ?_ rfl rfl rfl
    exact (if_pos ⟨h, ht⟩).trans (beginOpening_eq g s)
  · refine congrArg (fun t => Host.Outcome.next (State.inform t s)) ?_
    unfold State.strokeRunsOut
    obtain h | h := h <;> rw [h] <;> exact if_pos ht
  · exact congrArg (fun t => Host.Outcome.next (State.inform t s)) (if_pos ht)
  · refine congrArg (fun t => Host.Outcome.next (State.inform t s)) ?_
    rw [State.windowRunsOut, if_pos ⟨h, ht⟩, if_pos hc, raiseStarved_eq]
  · refine event_same ?_ rfl rfl rfl
    rw [State.windowRunsOut, if_pos ⟨h, ht⟩, if_neg (Nat.not_lt.mpr hc)]
    rfl
  · exact event_same rfl rfl rfl rfl

end Sys2Proof.Machine
end

section
/-! The stop loop in either role, the outputs, and the column's changes told to the sequencers. -/

namespace Sys2Proof.Machine

/-! ## The stop loop at a TIP station, and its closing (R61, R102) -/

theorem union_ofStopLoop (c : Causes) : c.union Causes.ofStopLoop = { c with stopLoop := true } := by
  simp [Causes.union, Causes.ofStopLoop, Causes.none]

theorem union_ofGateFault (c : Causes) : c.union Causes.ofGateFault = { c with gateFault := true } := by
  simp [Causes.union, Causes.ofGateFault, Causes.none]

theorem dropBreaker_eq (s : State) :
    s.dropBreaker =
      if s.active parkInput = true then breakerHome s else State.mark .fault (breakerTo (.fault .notParked) s) := by
  rw [State.dropBreaker, parkBreaker_eq]; rfl

theorem breakerLoopOpens_mode (s : State) : s.breakerLoopOpens.mode = s.mode := outer_mode (breakerLoopOpens_outer s)

/-- The stop loop's edge, in either role. -/
theorem edge_stopLoop {s : State} {active : Bool} (he : s.EdgeTo stopLoopInput active) (act : State → State) :
    s.edge .stopLoop stopLoopInput active act = act (s.takeEdge stopLoopInput active) :=
  edge_taken act (by cases s.straps.role <;> rfl) he

theorem breakerLoopOpens_working {s : State} {b : Bool} (h : s.breaker.state = .working b) :
    s.breakerLoopOpens =
      let v := { s with breaker := { s.breaker with lastEnd := some (.stopLoop, s.time) } }
      if v.active parkInput = true then breakerHome v else State.mark .fault (breakerTo (.fault .notParked) v) := by
  rw [State.breakerLoopOpens, h]
  exact dropBreaker_eq _

theorem breakerLoopOpens_returning {s : State} (h : s.breaker.state = .returning) :
    s.breakerLoopOpens =
      if s.active parkInput = true then breakerHome s else State.mark .fault (breakerTo (.fault .notParked) s) := by
  rw [State.breakerLoopOpens, h]
  exact dropBreaker_eq _

theorem breakerLoopOpens_stays {s : State} (h : s.breaker.state = .parked ∨ ∃ c, s.breaker.state = .fault c) :
    s.breakerLoopOpens = s := by
  obtain h | ⟨c, h⟩ := h <;> rw [State.breakerLoopOpens, h]

/-- The loop's opening at a TIP station: first the breaker, then STOP-LOOP. -/
theorem exec_loopAtTip {s : State} (hr : s.straps.role = .tip) (hm : s.mode ≠ .starting)
    (he : s.EdgeTo stopLoopInput false) :
    exec .stopLoopOpens s =
      let v := (s.takeEdge stopLoopInput false).breakerLoopOpens
      .next ((v.enterHold s.own (.halt { v.ownCauses with stopLoop := true })).inform s) := by
  have hmode : (s.takeEdge stopLoopInput false).breakerLoopOpens.mode ≠ .starting :=
    (breakerLoopOpens_mode _).symm ▸ hm
  have hown : (s.takeEdge stopLoopInput false).breakerLoopOpens.own = s.own :=
    (congrArg Straps.station (outer_straps (breakerLoopOpens_outer (s.takeEdge stopLoopInput false)))).trans rfl
  have hloop : (s.takeEdge stopLoopInput false).loopOpens =
      (s.takeEdge stopLoopInput false).breakerLoopOpens.addOwnCause Causes.ofStopLoop := by
    rw [State.loopOpens, if_neg (show (s.takeEdge stopLoopInput false).mode ≠ .starting from hm),
      show (s.takeEdge stopLoopInput false).straps.role = .tip from hr]
    rfl
  show event _ s = _
  rw [event, edge_stopLoop he, hloop, addOwnCause_of_started hmode, hown, union_ofStopLoop]

/-- Settles O27: by what the breaker was doing as the loop opened. -/
theorem stopLoopAtTip : Obligations.StopLoopAtTip := by
  refine ⟨fun s hr hm he => ?_, fun s => ⟨fun hm he => ?_, fun he => ?_⟩⟩
  · refine (exec_loopAtTip hr hm he).trans ?_
    cases hb : s.breaker.state with
    | working b => rw [breakerLoopOpens_working (s := s.takeEdge stopLoopInput false) hb]; rfl
    | returning => rw [breakerLoopOpens_returning (s := s.takeEdge stopLoopInput false) hb]
    | parked => rw [breakerLoopOpens_stays (s := s.takeEdge stopLoopInput false) (.inl hb)]
    | fault c => rw [breakerLoopOpens_stays (s := s.takeEdge stopLoopInput false) (.inr ⟨c, hb⟩)]
  · refine event_same ?_ rfl rfl rfl
    rw [edge_stopLoop he, State.loopOpens, if_pos (show (s.takeEdge stopLoopInput false).mode = .starting from hm),
      State.addOwnCause, if_pos (show (s.takeEdge stopLoopInput false).mode = .starting from hm), union_ofStopLoop]
    rfl
  · exact event_same (edge_stopLoop he id) rfl rfl rfl

/-! ## What stands of the gates' side -/

/-- What an operation leaves of the gates' side: sequencers, drawn totals, windows and wet rest; and no pending event
kind is cleared. -/
structure Beside (s t : State) : Prop where
  gates   : t.gates = s.gates
  drawn   : t.drawn = s.drawn
  windows : t.watch.windows = s.watch.windows
  wetRest : t.watch.wetRest = s.watch.wetRest
  pending : ∀ k, s.isPending k = true → t.isPending k = true

theorem Beside.refl (s : State) : Beside s s := ⟨rfl, rfl, rfl, rfl, fun _ => id⟩

theorem Beside.trans {s t u : State} (h : Beside s t) (k : Beside t u) : Beside s u :=
  ⟨k.gates.trans h.gates, k.drawn.trans h.drawn, k.windows.trans h.windows, k.wetRest.trans h.wetRest,
    fun x => k.pending x ∘ h.pending x⟩

theorem isPending_mark (k x : EventKind) (s : State) :
    (s.mark k).isPending x = (s.isPending x || k.flag.getLsbD x.bit) := by
  simp only [State.isPending, State.mark_port_pendingEvents, BitVec.getLsbD_or]

theorem isPending_mark_self (k : EventKind) (s : State) : (s.mark k).isPending k = true := by
  rw [isPending_mark, Bool.or_eq_true]
  exact .inr (by cases k <;> decide)

theorem mark_beside (k : EventKind) (s : State) : Beside s (s.mark k) :=
  ⟨rfl, rfl, rfl, rfl, fun x h => by rw [isPending_mark, h]; rfl⟩

theorem evaluateWet_beside (s : State) : Beside s s.evaluateWet := by
  unfold State.evaluateWet
  split
  · exact .refl s
  · exact Beside.trans (t := s.setWatch { s.watch with wet := s.columnWet }) ⟨rfl, rfl, rfl, rfl, fun _ => id⟩
      (mark_beside _ _)

theorem setColumn_beside (c : Column) (s : State) : Beside s (s.setColumn c) := by
  have hset : Beside s (s.setColumnRecord c) := ⟨rfl, rfl, rfl, rfl, fun _ => id⟩
  unfold State.setColumn
  split
  · exact hset
  · exact hset.trans (evaluateWet_beside _)

theorem modelEvent_beside (r : ModelReason) (s : State) : Beside s (s.modelEvent r) :=
  Beside.trans (t := s.setColumnRecord { s.column with lastReason := some r }) ⟨rfl, rfl, rfl, rfl, fun _ => id⟩
    (mark_beside _ _)

theorem addLayers_beside (l : List Segment) (s : State) : Beside s (s.addLayers l) := by
  unfold State.addLayers
  dsimp only
  split
  · split
    · exact setColumn_beside _ s
    · exact (setColumn_beside _ s).trans (modelEvent_beside _ _)
  · exact .refl s

theorem tipEnd_beside (o : Outcome) (load : Load) (s : State) : Beside s (s.tipEnd o load) :=
  ⟨rfl, rfl, rfl, rfl, fun x h => by rw [tipEnd_eq, tipOver, isPending_mark]; exact Bool.or_eq_true_iff.mpr (.inl h)⟩

theorem dropReservation_beside (n : Nat) (s : State) : Beside s (s.dropReservation n) :=
  ⟨rfl, rfl, rfl, rfl, fun _ => id⟩

theorem frameLost_beside (f : Frame) (s : State) : Beside s (s.frameLost f) := by
  unfold State.frameLost
  split
  · split
    · exact tipEnd_beside _ _ s
    all_goals exact .refl s
  · exact dropReservation_beside _ s
  · exact (dropReservation_beside _ s).trans (addLayers_beside _ _)
  all_goals exact .refl s

theorem setLine_beside (l : Line) (s : State) : Beside s (s.setLine l) := ⟨rfl, rfl, rfl, rfl, fun _ => id⟩

theorem handOver_beside (f : Frame) (s : State) : Beside s (s.handOver f) := by
  rcases handOver_cases f s with h | ⟨l, h⟩ | ⟨l, x, h⟩
  · rw [h]; exact .refl s
  · rw [h]; exact setLine_beside l s
  · rw [h]; exact (setLine_beside l s).trans (frameLost_beside x _)

/-! ## A DRAW station with no draw in WARNING, OPENING or OPEN -/

/-- Neither gate draws. -/
def State.GatesRest (s : State) : Prop := ∀ g, (s.gate g).state.drawing = false

theorem GatesRest.congr {s t : State} (h : s.GatesRest) (hg : t.gates = s.gates) : t.GatesRest := fun g => by
  rw [show t.gate g = s.gate g from congrArg (PerGate.get g) hg]; exact h g

theorem endDraw_rest {s : State} (h : s.GatesRest) (cause : EndCause) (g : Gate) : s.endDraw cause g = s :=
  endDraw_not_drawing (fun hd => by have := h g; rw [(drawing_iff _).mpr hd] at this; cases this) cause

theorem noteWet_rest {s : State} (h : s.GatesRest) (before : State) : s.noteWet before = s := by
  have hid {t : State} (ht : t.GatesRest) (status : WetStatus) (limit : Nat) (g : Gate) :
      t.updateGate g (GateSeq.noteWet status limit) = t := by
    have hq : GateSeq.noteWet status limit (t.gate g) = t.gate g := by
      unfold GateSeq.noteWet
      rw [if_neg (by rw [ht g]; nofun)]
    have hgates : t.gates.modify g (GateSeq.noteWet status limit) = t.gates := by
      cases g
      · exact congrArg (fun q => ({ t.gates with a := q } : PerGate GateSeq)) hq
      · exact congrArg (fun q => ({ t.gates with b := q } : PerGate GateSeq)) hq
    exact congrArg (fun x => t.setGates x) hgates
  unfold State.noteWet
  split
  · rfl
  · rw [hid h, hid h]

/-- The end of an event tells gates at rest nothing. -/
theorem inform_rest {s : State} (hr : s.straps.role = .draw) (h : s.GatesRest) (before : State) : s.inform before = s := by
  have hend (cause : Option EndCause) (g : Gate) : s.endDrawIf cause g = s := by
    cases cause with
    | none => rfl
    | some c => exact endDraw_rest h c g
  rw [State.inform, hr]
  dsimp only
  rw [State.informGates, noteWet_rest h, hend, hend]

theorem holdReported_beside (holder : Nat) (f : Frame) (s : State) : Beside s (holdReported holder f s) := by
  unfold holdReported
  split
  · exact handOver_beside f s
  · exact .refl s

/-- At a DRAW station with gates at rest an entry enters, is reported, and ends nothing. -/
theorem holdTaken_rest {s : State} (hr : s.straps.role = .draw) (h : s.GatesRest) (holder : Nat) (body : HoldBody)
    (l : List Hold) :
    Beside s (holdTaken holder body l s) ∧ (holdTaken holder body l s).holds = l := by
  have hreported := (mark_beside .holdChange { s with holds := l }).trans
    (holdReported_beside holder (.holdSet body) _)
  have hfelt : holdTaken holder body l s =
      holdReported holder (.holdSet body) (State.mark .holdChange { s with holds := l }) := by
    have hrole : (holdReported holder (.holdSet body) (State.mark .holdChange { s with holds := l })).straps.role =
        .draw := by
      rw [← reportHold_eq]; exact (congrArg Straps.role (outer_straps (reportHold_outer _ _ _))).trans hr
    have hrest := GatesRest.congr (s := s) h hreported.gates
    unfold holdTaken holdFelt
    rw [hrole]
    dsimp only
    rw [endDraw_rest hrest, endDraw_rest hrest]
  rw [hfelt]
  refine ⟨Beside.trans (t := { s with holds := l }) ⟨rfl, rfl, rfl, rfl, fun _ => id⟩ hreported, ?_⟩
  unfold holdReported
  split
  · exact handOver_holds _ _
  · rfl

end Sys2Proof.Machine
end

section
/-! The stop loop opening at a DRAW station (R122), and the outputs (R168, R169). -/

namespace Sys2Proof.Machine

/-! ## One gate -/

theorem PerGate.modify_congr {α : Type} {g : Gate} {f f' : α → α} {p : PerGate α} (h : f (p.get g) = f' (p.get g)) :
    p.modify g f = p.modify g f' := by
  cases g
  · exact congrArg (fun x => ({ p with a := x } : PerGate α)) h
  · exact congrArg (fun x => ({ p with b := x } : PerGate α)) h

theorem PerGate.modify_modify {α : Type} (g : Gate) (f f' : α → α) (p : PerGate α) :
    (p.modify g f).modify g f' = p.modify g (fun x => f' (f x)) := by
  cases g <;> rfl

/-- The sequencer as the opening of the stop loop leaves it, the gate proven closed or not (the table of R122). -/
def loopGate (proven : Prop) [Decidable proven] (time : Nat) (q : GateSeq) : GateSeq :=
  if q.state.inHand = false then q
  else if proven then (if q.state = .closing then GateSeq.close time q else closedAfter .stopLoop time q)
  else if q.state = .warning then faulted .gateDrift time q
  else if q.state = .closing then faulted .loopOpen time q
  else faulted .loopOpen time (GateSeq.endCause .stopLoop q)

/-- The gate, its watch and its marks changed by the opening, before its draw is completed. -/
def loopOpening (g : Gate) (s : State) : State :=
  let t := { s with gates := s.gates.modify g (loopGate (s.ProvenClosed g) s.time), watch := windowLeft g s }
  if s.ProvenClosed g then t else t.mark .fault

theorem inHand_of_drawing {q : GateState} (h : q.drawing = true) : q.inHand = true := by
  cases q <;> cases h <;> rfl

theorem loopOpening_proven {g : Gate} {s : State} {f : GateSeq → GateSeq} (hp : s.ProvenClosed g)
    (hf : loopGate (s.ProvenClosed g) s.time (s.gate g) = f (s.gate g)) :
    loopOpening g s = { s with gates := s.gates.modify g f, watch := windowLeft g s } := by
  rw [loopOpening, if_pos hp, PerGate.modify_congr hf]

theorem loopOpening_unproven {g : Gate} {s : State} {f : GateSeq → GateSeq} (hp : ¬s.ProvenClosed g)
    (hf : loopGate (s.ProvenClosed g) s.time (s.gate g) = f (s.gate g)) :
    loopOpening g s = State.mark .fault { s with gates := s.gates.modify g f, watch := windowLeft g s } := by
  rw [loopOpening, if_neg hp, PerGate.modify_congr hf]

theorem loopGate_closing_proven {p : Prop} [Decidable p] (hp : p) {q : GateSeq} (h : q.state = .closing) (time : Nat) :
    loopGate p time q = GateSeq.close time q := by
  rw [loopGate, if_neg (by rw [h]; nofun), if_pos hp, if_pos h]

theorem loopGate_drawing_proven {p : Prop} [Decidable p] (hp : p) {q : GateSeq} (h : q.state.drawing = true)
    (time : Nat) : loopGate p time q = closedAfter .stopLoop time q := by
  rw [loopGate, if_neg, if_pos hp, if_neg]
  · intro hc; rw [hc] at h; cases h
  · rw [inHand_of_drawing h]; nofun

theorem loopGate_warning {p : Prop} [Decidable p] (hp : ¬p) {q : GateSeq} (h : q.state = .warning) (time : Nat) :
    loopGate p time q = faulted .gateDrift time q := by
  rw [loopGate, if_neg (by rw [h]; nofun), if_neg hp, if_pos h]

theorem loopGate_closing {p : Prop} [Decidable p] (hp : ¬p) {q : GateSeq} (h : q.state = .closing) (time : Nat) :
    loopGate p time q = faulted .loopOpen time q := by
  rw [loopGate, if_neg (by rw [h]; nofun), if_neg hp, if_neg (by rw [h]; nofun), if_pos h]

theorem loopGate_stroke {p : Prop} [Decidable p] (hp : ¬p) {q : GateSeq} (h : q.state = .opening ∨ q.state = .opened)
    (time : Nat) : loopGate p time q = faulted .loopOpen time (GateSeq.endCause .stopLoop q) := by
  obtain h | h := h
  · rw [loopGate, if_neg (by rw [h]; nofun), if_neg hp, if_neg (by rw [h]; nofun), if_neg (by rw [h]; nofun)]
  · rw [loopGate, if_neg (by rw [h]; nofun), if_neg hp, if_neg (by rw [h]; nofun), if_neg (by rw [h]; nofun)]

theorem inHand_cases {q : GateSeq} (h : q.state.inHand = true) :
    q.state.drawing = true ∨ q.state = .closing := by
  cases hs : q.state <;> rw [hs] at h
  case closed | fault => cases h
  case closing => exact .inr rfl
  all_goals exact .inl rfl

theorem drawing_cases {q : GateSeq} (h : q.state.drawing = true) :
    q.state = .warning ∨ q.state = .opening ∨ q.state = .opened := (drawing_iff q).mp h

theorem not_inHand_of_drawing {q : GateSeq} (h : q.state.inHand = true) : ¬q.state.inHand = false := by
  rw [h]; nofun

theorem not_warning_of_stroke {q : GateState} (h : q = .opening ∨ q = .opened) : q ≠ .warning := by
  rintro rfl; simp at h

theorem not_closing_of_stroke {q : GateState} (h : q = .opening ∨ q = .opened) : q ≠ .closing := by
  rintro rfl; simp at h

/-- The statement's account of one gate at the opening. -/
theorem loopOpened_eq_opening (g : Gate) (s : State) :
    gateLoopOpened g s =
      if (s.gate g).state.inHand = false then s
      else drawCompleted (s.gate g).wetRestricted (loopOpening g s) := by
  unfold gateLoopOpened
  dsimp only
  refine ite_of_iff_under Iff.rfl (fun _ => rfl) fun hhand => ?_
  have hcases := inHand_cases (Bool.of_not_eq_false hhand)
  by_cases hp : s.ProvenClosed g
  · rw [if_pos hp]
    obtain hd | hc := hcases
    · rw [if_neg (by intro hc; rw [hc] at hd; cases hd), loopOpening_proven hp (loopGate_drawing_proven hp hd _)]
    · rw [if_pos hc, loopOpening_proven hp (loopGate_closing_proven hp hc _), windowLeft_other (by rw [hc]; nofun)]
      rfl
  · rw [if_neg hp]
    obtain hd | hc := hcases
    · obtain hw | hs := drawing_cases hd
      · rw [loopOpening_unproven hp (f := faulted .gateDrift s.time) (loopGate_warning hp hw _)]
        refine congrArg (fun x => drawCompleted _ (State.mark .fault { s with gates := x, watch := _ }))
          (PerGate.modify_congr (if_pos hw))
      · rw [loopOpening_unproven hp
          (f := fun q => faulted .loopOpen s.time (GateSeq.endCause .stopLoop q)) (loopGate_stroke hp hs _)]
        refine congrArg (fun x => drawCompleted _ (State.mark .fault { s with gates := x, watch := _ }))
          (PerGate.modify_congr ?_)
        have hstroke : (s.gates.get g).state = .opening ∨ (s.gates.get g).state = .opened := hs
        rw [if_neg (not_warning_of_stroke hstroke), if_neg (not_closing_of_stroke hstroke)]
        rfl
    · rw [loopOpening_unproven hp (loopGate_closing hp hc _)]
      refine congrArg (fun x => drawCompleted _ (State.mark .fault { s with gates := x, watch := _ }))
        (PerGate.modify_congr ?_)
      have hclosing : (s.gates.get g).state = .closing := hc
      rw [if_neg (by rw [hclosing]; nofun), if_pos hclosing]

theorem windowLeft_withGate {g : Gate} {f : GateSeq → GateSeq} {s : State} (h : (f (s.gate g)).state = (s.gate g).state) :
    windowLeft g (s.withGate g f) = windowLeft g s := by
  unfold windowLeft
  rw [gate_withGate, h]; rfl

theorem loopEndsDraw_drawing {g : Gate} {s : State} (h : (s.gate g).state.drawing = true) :
    s.loopEndsDraw g = s.withGate g (GateSeq.endCause .stopLoop) := if_pos h

theorem loopEndsDraw_closing {g : Gate} {s : State} (h : (s.gate g).state = .closing) : s.loopEndsDraw g = s :=
  if_neg (by rw [h]; nofun)

/-- The model's account of one gate at the opening. -/
theorem gateLoopOpens_eq_opening (g : Gate) (s : State) :
    s.gateLoopOpens g =
      if (s.gate g).state.inHand = false then s
      else drawCompleted (s.gate g).wetRestricted (loopOpening g s) := by
  unfold State.gateLoopOpens
  by_cases hhand : (s.gate g).state.inHand = true
  · rw [if_pos hhand, if_neg (not_inHand_of_drawing hhand)]
    have hcases := inHand_cases hhand
    by_cases hp : s.ProvenClosed g
    · rw [if_pos ((provenClosed_iff g s).mpr hp)]
      obtain hd | hc := hcases
      · rw [loopEndsDraw_drawing hd, stopOpenWindow_eq, windowLeft_withGate rfl, enterClosed_eq,
          loopOpening_proven hp (loopGate_drawing_proven hp hd _)]
        refine congr (congrArg drawCompleted ?_)
          (congrArg (fun x => ({ s with gates := x, watch := windowLeft g s } : State)) ?_)
        · exact (congrArg GateSeq.wetRestricted (gate_withGate g _ s)).trans (endCause_wetRestricted _ _)
        · refine (PerGate.modify_modify g _ _ s.gates).trans (PerGate.modify_congr ?_)
          exact close_endCause _ _ _
      · rw [loopEndsDraw_closing hc, stopOpenWindow_eq, enterClosed_eq,
          loopOpening_proven hp (loopGate_closing_proven hp hc _)]
        rfl
    · rw [if_neg fun h => hp ((provenClosed_iff g s).mp h)]
      obtain hd | hc := hcases
      · obtain hw | hs := drawing_cases hd
        · rw [loopOpening_unproven hp (loopGate_warning hp hw _), if_pos hw, failGate_eq]
          exact if_pos hhand
        · rw [loopOpening_unproven hp
          (f := fun q => faulted .loopOpen s.time (GateSeq.endCause .stopLoop q)) (loopGate_stroke hp hs _), if_neg (not_warning_of_stroke hs),
            loopEndsDraw_drawing hd, failGate_eq, windowLeft_withGate rfl]
          refine (if_pos (by rw [gate_withGate]; exact hhand)).trans ?_
          refine congr (congrArg drawCompleted ?_)
            (congrArg (fun x => State.mark .fault { s with gates := x, watch := windowLeft g s }) ?_)
          · exact (congrArg GateSeq.wetRestricted (gate_withGate g _ s)).trans (endCause_wetRestricted _ _)
          · exact PerGate.modify_modify g _ _ s.gates
      · rw [loopOpening_unproven hp (loopGate_closing hp hc _), if_neg (by rw [hc]; nofun), loopEndsDraw_closing hc,
          failGate_eq]
        exact if_pos hhand
  · rw [if_neg hhand, if_pos (Bool.eq_false_iff.mpr hhand)]

theorem gateLoopOpens_eq (g : Gate) (s : State) : s.gateLoopOpens g = gateLoopOpened g s := by
  rw [gateLoopOpens_eq_opening, loopOpened_eq_opening]

/-! ## What the opening leaves at a gate -/

/-- The drawn totals after a DRAWN where mass is yet unreported (R125). -/
def totalsReported (d : DrawTotals) : DrawTotals :=
  if d.reported < d.cumulative then ⟨d.cumulative, d.cumulative, false⟩ else d

/-- What the completion of a draw leaves. -/
structure Completed (wet : Bool) (s t : State) : Prop where
  gates   : t.gates = s.gates
  drawn   : t.drawn = totalsReported s.drawn
  windows : t.watch.windows = s.watch.windows
  wetRest : t.watch.wetRest = if wet = true then ⟨true, s.prof.wetRest * 1000⟩ else s.watch.wetRest
  pending : ∀ k, s.isPending k = true → t.isPending k = true
  ended   : t.isPending .drawEnd = true
  holds   : t.holds = s.holds

theorem drawnReported_keeps (s : State) :
    (drawnReported s).gates = s.gates ∧ (drawnReported s).drawn = totalsReported s.drawn ∧
    (drawnReported s).watch.windows = s.watch.windows ∧ (drawnReported s).watch.wetRest = s.watch.wetRest ∧
    (∀ k, s.isPending k = true → (drawnReported s).isPending k = true) ∧ (drawnReported s).holds = s.holds := by
  unfold drawnReported totalsReported
  split
  · have hb := handOver_beside (.drawn s.store.generation s.drawn.cumulative s.gates.a.state.running
      s.gates.b.state.running s.drawn.dribble)
      { s with drawn := ⟨s.drawn.cumulative, s.drawn.cumulative, false⟩ }
    exact ⟨hb.gates, hb.drawn, hb.windows, hb.wetRest, hb.pending, handOver_holds _ _⟩
  · exact ⟨rfl, rfl, rfl, rfl, fun _ => id, rfl⟩

theorem drawCompleted_completed (wet : Bool) (s : State) : Completed wet s (drawCompleted wet s) := by
  unfold drawCompleted
  obtain ⟨hg, hd, hw, hr, hp, hh⟩ := drawnReported_keeps (State.mark .drawEnd
    (if wet = true then { s with watch := { s.watch with wetRest := ⟨true, s.prof.wetRest * 1000⟩ } } else s))
  refine ⟨hg.trans ?_, hd.trans ?_, hw.trans ?_, hr.trans ?_, fun k hk => hp k ?_, hp _ (isPending_mark_self _ _),
    hh.trans ?_⟩
  · cases wet <;> rfl
  · cases wet <;> rfl
  · cases wet <;> rfl
  · cases wet <;> rfl
  · rw [isPending_mark]
    refine Bool.or_eq_true_iff.mpr (.inl ?_)
    cases wet <;> exact hk
  · cases wet <;> rfl

/-- What the opening of the loop leaves at a gate. -/
structure LoopAtGate (g : Gate) (s t : State) : Prop where
  gates   : t.gates = s.gates.modify g (loopGate (s.ProvenClosed g) s.time)
  drawn   : t.drawn = if (s.gate g).state.inHand = true then totalsReported s.drawn else s.drawn
  windows : t.watch.windows = (windowLeft g s).windows
  wetRest : t.watch.wetRest = if (s.gate g).state.inHand = true ∧ (s.gate g).wetRestricted = true then
    ⟨true, s.prof.wetRest * 1000⟩ else s.watch.wetRest
  pending : ∀ k, s.isPending k = true → t.isPending k = true
  ended   : (s.gate g).state.inHand = true → t.isPending .drawEnd = true
  fault   : (s.gate g).state.inHand = true → ¬s.ProvenClosed g → t.isPending .fault = true
  holds   : t.holds = s.holds

theorem loopGate_resting {p : Prop} [Decidable p] {q : GateSeq} (h : q.state.inHand = false) (time : Nat) :
    loopGate p time q = q := if_pos h

theorem modify_same {g : Gate} {f : GateSeq → GateSeq} {p : PerGate GateSeq} (h : f (p.get g) = p.get g) :
    p.modify g f = p := by
  refine (PerGate.modify_congr (f' := id) h).trans ?_
  cases g <;> rfl

theorem loopOpening_marks (g : Gate) (s : State) :
    (∀ k, s.isPending k = true → (loopOpening g s).isPending k = true) ∧
    (¬s.ProvenClosed g → (loopOpening g s).isPending .fault = true) := by
  unfold loopOpening
  dsimp only
  split
  next hp => exact ⟨fun _ => id, fun hn => absurd hp hn⟩
  next => exact ⟨(mark_beside .fault _).pending, fun _ => isPending_mark_self _ _⟩

theorem loopOpening_keeps (g : Gate) (s : State) :
    (loopOpening g s).gates = s.gates.modify g (loopGate (s.ProvenClosed g) s.time) ∧
    (loopOpening g s).drawn = s.drawn ∧ (loopOpening g s).watch = windowLeft g s ∧
    (loopOpening g s).holds = s.holds ∧ (loopOpening g s).prof = s.prof := by
  unfold loopOpening
  dsimp only
  split <;> exact ⟨rfl, rfl, rfl, rfl, rfl⟩

theorem windowLeft_wetRest (g : Gate) (s : State) : (windowLeft g s).wetRest = s.watch.wetRest := by
  unfold windowLeft
  split <;> rfl

theorem gateLoopOpened_loopAtGate (g : Gate) (s : State) : LoopAtGate g s (gateLoopOpened g s) := by
  rw [loopOpened_eq_opening]
  by_cases hhand : (s.gate g).state.inHand = true
  · rw [if_neg (not_inHand_of_drawing hhand)]
    obtain ⟨hgates, hdrawn, hwatch, hholds, hprof⟩ := loopOpening_keeps g s
    obtain ⟨hpending, hfault⟩ := loopOpening_marks g s
    have hc := drawCompleted_completed (s.gate g).wetRestricted (loopOpening g s)
    refine ⟨hc.gates.trans hgates, ?_, ?_, ?_, fun k hk => hc.pending k (hpending k hk), fun _ => hc.ended,
      fun _ hp => hc.pending _ (hfault hp), hc.holds.trans hholds⟩
    · rw [hc.drawn, hdrawn, if_pos hhand]
    · rw [hc.windows, hwatch]
    · rw [hc.wetRest, hwatch, windowLeft_wetRest, hprof]
      simp only [hhand, true_and]
  · have hrest := Bool.eq_false_iff.mpr hhand
    rw [if_pos hrest]
    refine ⟨(modify_same (loopGate_resting hrest _)).symm, (if_neg hhand).symm, ?_, (if_neg fun h => hhand h.1).symm,
      fun _ => id, fun h => absurd h hhand, fun h => absurd h hhand, rfl⟩
    rw [windowLeft_other (by intro h; rw [h] at hhand; exact hhand rfl)]

/-! ## Causes joining the own HALT with the gates at rest -/

theorem holdOf_append_new {holder : Nat} {body : HoldBody} {l : List Hold} (time : Nat)
    (h : ∀ x ∈ l, ¬(x.holder = holder ∧ x.body.kind = body.kind)) :
    (l ++ [(⟨holder, time, body⟩ : Hold)]).find? (Hold.isOf holder body.kind) = some ⟨holder, time, body⟩ := by
  have hnone : l.find? (Hold.isOf holder body.kind) = none := by
    rw [List.find?_eq_none]
    exact fun x hx => by rw [isOf_iff]; exact h x hx
  rw [List.find?_append, hnone, Option.none_or]
  simp [Hold.isOf]

theorem holdOf_replaced {holder : Nat} {body : HoldBody} {l : List Hold} {h : Hold}
    (hf : l.find? (Hold.isOf holder body.kind) = some h) :
    (replaceHold holder body l).find? (Hold.isOf holder body.kind) = some { h with body := body } := by
  have hsame : (Hold.isOf holder body.kind) ∘
      (fun h => if h.isOf holder body.kind then { h with body := body } else h) = Hold.isOf holder body.kind := by
    funext x
    rw [Function.comp_apply]
    split
    next hx =>
      obtain ⟨hholder, -⟩ := (isOf_iff _ _ _).mp hx
      rw [hx, isOf_iff]
      exact ⟨hholder, rfl⟩
    next => rfl
  rw [replaceHold, List.find?_map, hsame, hf, Option.map_some]
  exact congrArg some (if_pos (List.find?_some hf))

/-- An entry that has entered stands in the list as given. -/
theorem enterHold_rest {s : State} (hr : s.straps.role = .draw) (h : s.GatesRest) (holder : Nat) (body : HoldBody) :
    Beside s (s.enterHold holder body) ∧
    ∃ e, (s.enterHold holder body).holdOf holder body.kind = some e ∧ e.body = body := by
  cases hf : s.holdOf holder body.kind with
  | none =>
    have hnew := (holdOf_none_iff _ _ _).mp hf
    obtain ⟨hb, hl⟩ := holdTaken_rest hr h holder body (s.holds ++ [⟨holder, s.time, body⟩])
    rw [enterHold_new hnew]
    exact ⟨hb, _, by rw [State.holdOf, hl, holdOf_append_new _ hnew], rfl⟩
  | some e =>
    by_cases he : e.body = body
    · rw [enterHold_same hf he]
      exact ⟨.refl s, e, hf, he⟩
    · obtain ⟨hb, hl⟩ := holdTaken_rest hr h holder body (replaceHold holder body s.holds)
      rw [enterHold_changed hf he, ← replaceHold_eq]
      exact ⟨hb, _, by rw [State.holdOf, hl, holdOf_replaced hf], rfl⟩

theorem ownCauses_of_entry {s : State} {e : Hold} {c : Causes} (h : s.holdOf s.own .halt = some e)
    (he : e.body = .halt c) : s.ownCauses = c := by
  obtain ⟨holder, since, body⟩ := e
  obtain rfl : body = .halt c := he
  rw [State.ownCauses, h]

/-- Outside STARTING with the gates at rest: a cause that joins changes the own HALT and what is reported of it. -/
theorem addOwnCause_rest {s : State} (hr : s.straps.role = .draw) (hm : s.mode ≠ .starting) (h : s.GatesRest)
    (c : Causes) :
    Beside s (s.addOwnCause c) ∧ (s.addOwnCause c).ownCauses = s.ownCauses.union c ∧
    (c.union c = c → (s.addOwnCause c).addOwnCause c = s.addOwnCause c) := by
  rw [addOwnCause_of_started hm]
  obtain ⟨hb, e, he, hbody⟩ := enterHold_rest hr h s.own (.halt (s.ownCauses.union c))
  have hown : (s.enterHold s.own (.halt (s.ownCauses.union c))).own = s.own :=
    congrArg Straps.station (outer_straps (enterHold_outer _ _ _))
  have he' : (s.enterHold s.own (.halt (s.ownCauses.union c))).holdOf
      (s.enterHold s.own (.halt (s.ownCauses.union c))).own .halt = some e := by rw [hown]; exact he
  have hcauses := ownCauses_of_entry he' hbody
  refine ⟨hb, hcauses, fun hcc => ?_⟩
  have hmode : (s.enterHold s.own (.halt (s.ownCauses.union c))).mode ≠ .starting := by
    rw [outer_mode (enterHold_outer _ _ _)]; exact hm
  have hunion : (s.ownCauses.union c).union c = s.ownCauses.union c := by
    have hassoc : (s.ownCauses.union c).union c = s.ownCauses.union (c.union c) := by
      simp only [Causes.union, Bool.or_assoc]
    rw [hassoc, hcc]
  rw [addOwnCause_of_started hmode, hcauses, hunion]
  exact enterHold_same he' hbody

/-! ## Both gates, and the causes -/

theorem loopGate_not_drawing (p : Prop) [Decidable p] (time : Nat) (q : GateSeq) :
    (loopGate p time q).state.drawing = false := by
  unfold loopGate
  split
  next h =>
    exact Bool.eq_false_iff.mpr fun hd => by rw [inHand_of_drawing hd] at h; cases h
  next => split
          · split <;> rfl
          · split
            · rfl
            · split <;> rfl

/-- Both gates as the opening leaves them. -/
def bothOpened (s : State) : State := gateLoopOpened .b (gateLoopOpened .a s)

theorem gateLoopOpened_outer (g : Gate) (s : State) : (gateLoopOpened g s).outer = s.outer := by
  rw [← gateLoopOpens_eq, gateLoopOpens_outer]

theorem bothOpened_outer (s : State) : (bothOpened s).outer = s.outer := by
  rw [bothOpened, gateLoopOpened_outer, gateLoopOpened_outer]

theorem provenClosed_after_a (g : Gate) (s : State) : (gateLoopOpened .a s).ProvenClosed g ↔ s.ProvenClosed g := by
  rw [← provenClosed_iff]; exact provenClosed_of_outer (gateLoopOpened_outer .a s) g

/-- Gate B's part sees gate A's only in what is beside its sequencer. -/
theorem gate_b_after_a (s : State) : (gateLoopOpened .a s).gate .b = s.gate .b := by
  rw [State.gate, (gateLoopOpened_loopAtGate .a s).gates]; rfl

theorem bothOpened_gate (g : Gate) (s : State) :
    (bothOpened s).gate g = loopGate (s.ProvenClosed g) s.time (s.gate g) := by
  have ha := (gateLoopOpened_loopAtGate .a s).gates
  have hb := (gateLoopOpened_loopAtGate .b (gateLoopOpened .a s)).gates
  rw [State.gate, bothOpened, hb, ha]
  cases g with
  | a => rfl
  | b =>
    show loopGate ((gateLoopOpened .a s).ProvenClosed .b) (gateLoopOpened .a s).time (s.gate .b) = _
    rw [outer_time (gateLoopOpened_outer .a s)]
    simp only [provenClosed_after_a]

theorem bothOpened_rest (s : State) : (bothOpened s).GatesRest := fun g => by
  rw [bothOpened_gate]; exact loopGate_not_drawing _ _ _

theorem gate_state_b_after_a (s : State) : ((gateLoopOpened .a s).gate .b).state = (s.gate .b).state :=
  congrArg GateSeq.state (gate_b_after_a s)

theorem totalsReported_twice (d : DrawTotals) : totalsReported (totalsReported d) = totalsReported d := by
  unfold totalsReported
  split
  · exact if_neg (Nat.lt_irrefl _)
  · rfl

theorem bothOpened_drawn {g : Gate} {s : State} (h : (s.gate g).state.inHand = true) :
    (bothOpened s).drawn = totalsReported s.drawn := by
  rw [bothOpened, (gateLoopOpened_loopAtGate .b (gateLoopOpened .a s)).drawn, gate_state_b_after_a,
    (gateLoopOpened_loopAtGate .a s).drawn]
  cases g with
  | a =>
    rw [if_pos h]
    split
    · exact totalsReported_twice _
    · rfl
  | b =>
    rw [if_pos h]
    split
    · exact totalsReported_twice _
    · rfl

theorem windowLeft_windows (g x : Gate) (s : State) :
    (windowLeft g s).windows.get x =
      if x = g ∧ (s.gate g).state = .opened then ⟨⟨false, 0⟩, 0⟩ else s.watch.windows.get x := by
  unfold windowLeft
  split
  next h =>
    by_cases hx : x = g
    · subst hx
      rw [if_pos ⟨rfl, h⟩]
      exact PerGate.get_modify_same x _ _
    · rw [if_neg fun hk => hx hk.1]
      exact PerGate.get_modify_other hx _ _
  next h => rw [if_neg fun hk => h hk.2]

theorem bothOpened_windows (g : Gate) (s : State) :
    (bothOpened s).watch.windows.get g =
      if (s.gate g).state = .opened then ⟨⟨false, 0⟩, 0⟩ else s.watch.windows.get g := by
  rw [bothOpened, (gateLoopOpened_loopAtGate .b (gateLoopOpened .a s)).windows, windowLeft_windows,
    gate_state_b_after_a, (gateLoopOpened_loopAtGate .a s).windows, windowLeft_windows]
  cases g <;> simp

theorem bothOpened_wetRest (s : State) :
    (bothOpened s).watch.wetRest =
      if ∃ g ∈ [Gate.a, Gate.b], (s.gate g).state.inHand = true ∧ (s.gate g).wetRestricted = true then
        ⟨true, s.prof.wetRest * 1000⟩ else s.watch.wetRest := by
  have hprof : (gateLoopOpened .a s).prof = s.prof := by
    simp only [State.prof, outer_profile (gateLoopOpened_outer .a s)]
  rw [bothOpened, (gateLoopOpened_loopAtGate .b (gateLoopOpened .a s)).wetRest, gate_b_after_a, hprof,
    (gateLoopOpened_loopAtGate .a s).wetRest]
  by_cases ha : (s.gate .a).state.inHand = true ∧ (s.gate .a).wetRestricted = true
  · rw [if_pos ha, ite_self]
    exact (if_pos ⟨.a, by simp, ha⟩).symm
  · rw [if_neg ha]
    refine ite_of_iff ⟨fun h => ⟨.b, by simp, h⟩, ?_⟩ rfl rfl
    rintro ⟨g, -, hg⟩
    cases g with
    | a => exact absurd hg ha
    | b => exact hg

theorem bothOpened_pending (s : State) :
    (∀ k, s.isPending k = true → (bothOpened s).isPending k = true) ∧
    (∀ g, (s.gate g).state.inHand = true → (bothOpened s).isPending .drawEnd = true) ∧
    (∀ g, (s.gate g).state.inHand = true → ¬s.ProvenClosed g → (bothOpened s).isPending .fault = true) := by
  have ha := gateLoopOpened_loopAtGate .a s
  have hb := gateLoopOpened_loopAtGate .b (gateLoopOpened .a s)
  refine ⟨fun k hk => hb.pending k (ha.pending k hk), fun g h => ?_, fun g h hp => ?_⟩
  · cases g with
    | a => exact hb.pending _ (ha.ended h)
    | b => exact hb.ended (by rw [gate_state_b_after_a]; exact h)
  · cases g with
    | a => exact hb.pending _ (ha.fault h hp)
    | b => exact hb.fault (by rw [gate_state_b_after_a]; exact h) (by rw [provenClosed_after_a]; exact hp)

/-- A draw in hand stands at a gate not proven closed. -/
def SomeUnproven (s : State) : Prop := ∃ g ∈ [Gate.a, Gate.b], (s.gate g).state.inHand = true ∧ ¬s.ProvenClosed g

/-- The state with STOP-LOOP in the own HALT, before GATE-FAULT. -/
def loopJoined (s : State) : State := (bothOpened s).addOwnCause Causes.ofStopLoop

theorem loopJoined_outer (s : State) : (loopJoined s).outer = s.outer := by
  rw [loopJoined, addOwnCause_outer, bothOpened_outer]

theorem reportLoopFault_eq {s t : State} (h : t.outer = s.outer) (g : Gate) :
    t.reportLoopFault s g =
      if (s.gate g).state.inHand = true ∧ ¬s.ProvenClosed g then t.addOwnCause Causes.ofGateFault else t := by
  unfold State.reportLoopFault State.reportUnproven
  by_cases hhand : (s.gate g).state.inHand = true
  · rw [if_pos hhand]
    by_cases hp : s.ProvenClosed g
    · rw [if_pos ((provenClosed_of_outer h g).mpr hp), if_neg fun hk => hk.2 hp]
    · rw [if_neg (fun hk => hp ((provenClosed_of_outer h g).mp hk)), if_pos ⟨hhand, hp⟩]
  · rw [if_neg hhand, if_neg fun hk => hhand hk.1]

section
variable {s : State} (hr : s.straps.role = .draw) (hm : s.mode ≠ .starting)
include hr hm

theorem loopJoined_rest :
    Beside (bothOpened s) (loopJoined s) ∧
    (loopJoined s).ownCauses = (bothOpened s).ownCauses.union Causes.ofStopLoop ∧ (loopJoined s).GatesRest ∧
    (loopJoined s).straps.role = .draw ∧ (loopJoined s).mode ≠ .starting := by
  have hrole : (bothOpened s).straps.role = .draw := by rw [outer_straps (bothOpened_outer s), hr]
  have hmode : (bothOpened s).mode ≠ .starting := by rw [outer_mode (bothOpened_outer s)]; exact hm
  obtain ⟨hb, hc, _⟩ := addOwnCause_rest hrole hmode (bothOpened_rest s) Causes.ofStopLoop
  refine ⟨hb, hc, GatesRest.congr (bothOpened_rest s) hb.gates, ?_, ?_⟩
  · rw [outer_straps (loopJoined_outer s), hr]
  · rw [outer_mode (loopJoined_outer s)]; exact hm

/-- The opening of the loop in the model is the statement's: GATE-FAULT joins once, whichever gates fault. -/
theorem drawLoopOpens_eq : s.drawLoopOpens = loopOpenedAtDraw s := by
  obtain ⟨_, _, hrest, hrole, hmode⟩ := loopJoined_rest hr hm
  obtain ⟨_, _, htwice⟩ := addOwnCause_rest hrole hmode hrest Causes.ofGateFault
  have hjoined : ((s.gateLoopOpens .a).gateLoopOpens .b).addOwnCause Causes.ofStopLoop = loopJoined s := by
    rw [gateLoopOpens_eq, gateLoopOpens_eq]; rfl
  have hleft : s.drawLoopOpens = ((loopJoined s).reportLoopFault s .a).reportLoopFault s .b := by
    rw [State.drawLoopOpens, hjoined]
  have hright : loopOpenedAtDraw s =
      if ∃ g ∈ [Gate.a, Gate.b], (s.gate g).state.inHand = true ∧ ¬s.ProvenClosed g then
        (loopJoined s).addOwnCause Causes.ofGateFault else loopJoined s := rfl
  rw [hleft, hright, reportLoopFault_eq (loopJoined_outer s) .a]
  by_cases ha : (s.gate .a).state.inHand = true ∧ ¬s.ProvenClosed .a
  · rw [if_pos ha, if_pos ⟨.a, by simp, ha⟩, reportLoopFault_eq ((addOwnCause_outer _ _).trans (loopJoined_outer s)),
      htwice rfl, ite_self]
  · rw [if_neg ha, reportLoopFault_eq (loopJoined_outer s)]
    refine ite_of_iff ⟨fun h => ⟨.b, by simp, h⟩, ?_⟩ rfl rfl
    rintro ⟨g, -, hg⟩
    cases g with
    | a => exact absurd hg ha
    | b => exact hg

/-- What the opening leaves beside the hold list, and the causes it brings. -/
theorem loopOpenedAtDraw_rest :
    Beside (bothOpened s) (loopOpenedAtDraw s) ∧ (loopOpenedAtDraw s).ownCauses.stopLoop = true ∧
    (∀ g, (s.gate g).state.inHand = true → ¬s.ProvenClosed g → (loopOpenedAtDraw s).ownCauses.gateFault = true) ∧
    (loopOpenedAtDraw s).outer = s.outer := by
  obtain ⟨hbeside, hcauses, hrest, hrole, hmode⟩ := loopJoined_rest hr hm
  obtain ⟨hfault, hboth, _⟩ := addOwnCause_rest hrole hmode hrest Causes.ofGateFault
  have hright : loopOpenedAtDraw s =
      if ∃ g ∈ [Gate.a, Gate.b], (s.gate g).state.inHand = true ∧ ¬s.ProvenClosed g then
        (loopJoined s).addOwnCause Causes.ofGateFault else loopJoined s := rfl
  rw [hright]
  split
  next =>
    refine ⟨hbeside.trans hfault, ?_, fun _ _ _ => ?_, (addOwnCause_outer _ _).trans (loopJoined_outer s)⟩
    · rw [hboth, hcauses, union_ofGateFault, union_ofStopLoop]
    · rw [hboth, union_ofGateFault]
  next hnone =>
    refine ⟨hbeside, ?_, fun g hh hp => absurd ⟨g, by cases g <;> simp, hh, hp⟩ hnone, loopJoined_outer s⟩
    rw [hcauses, union_ofStopLoop]

end

/-! ## The statement -/

theorem active_takeEdge_other {i j : InputNo} (h : j ≠ i) (active : Bool) (s : State) :
    (s.takeEdge i active).active j = s.active j := by
  have hval : i.val ≠ j.val := fun hk => h (Fin.ext hk.symm)
  simp [State.takeEdge, State.setRaw, State.setConditioned, State.active, State.conditioned, State.setField,
    Vector.getElem_set_ne, hval]

theorem conditioned_takeEdge (i : InputNo) (active : Bool) (s : State) :
    (s.takeEdge i active).conditioned i = some active := by
  simp [State.takeEdge, State.setRaw, State.setConditioned, State.conditioned, State.setField]

theorem provenClosed_stopLoop (active : Bool) (g : Gate) (s : State) :
    (s.takeEdge stopLoopInput active).ProvenClosed g ↔ s.ProvenClosed g := by
  simp only [State.ProvenClosed]
  rw [active_takeEdge_other (by cases g <;> decide), active_takeEdge_other (by cases g <;> decide)]

theorem loopGate_state_proven {p : Prop} [Decidable p] (hp : p) {q : GateSeq} (h : q.state.inHand = true) (time : Nat) :
    (loopGate p time q).state = .closed := by
  obtain hd | hc := inHand_cases h
  · rw [loopGate_drawing_proven hp hd]; rfl
  · rw [loopGate_closing_proven hp hc]; rfl

theorem loopGate_state_unproven {p : Prop} [Decidable p] (hp : ¬p) {q : GateSeq} (h : q.state.inHand = true)
    (hw : q.state ≠ .warning) (time : Nat) : (loopGate p time q).state = .fault .loopOpen := by
  obtain hd | hc := inHand_cases h
  · obtain hk | hs := drawing_cases hd
    · exact absurd hk hw
    · rw [loopGate_stroke hp hs]; rfl
  · rw [loopGate_closing hp hc]; rfl

theorem faulted_record {q : GateSeq} (h : q.state.inHand = true) (cause : GateFault) (time : Nat) :
    (faulted cause time q).record = q.record.map (fun r => { r with outcome := some (false, time) }) := if_pos h

/-- The record of a draw in hand at the opening: its outcome, and STOP-LOOP where the opening is what ended it. -/
theorem loopGate_record (p : Prop) [Decidable p] (time : Nat) {q : GateSeq} (h : q.state.inHand = true) :
    (loopGate p time q).record = q.record.map (fun r =>
      { r with
        outcome := some (decide p, time)
        endCause := if q.state = .closing ∨ (q.state = .warning ∧ ¬p) then r.endCause else some .stopLoop }) := by
  by_cases hp : p
  · obtain hd | hc := inHand_cases h
    · rw [loopGate_drawing_proven hp hd]
      have hnot : ¬(q.state = .closing ∨ (q.state = .warning ∧ ¬p)) := by
        rintro (hk | hk)
        · rw [hk] at hd; cases hd
        · exact hk.2 hp
      simp only [if_neg hnot, decide_eq_true hp]; rfl
    · rw [loopGate_closing_proven hp hc]
      simp only [if_pos (Or.inl hc : q.state = .closing ∨ (q.state = .warning ∧ ¬p)), decide_eq_true hp]; rfl
  · obtain hd | hc := inHand_cases h
    · obtain hw | hs := drawing_cases hd
      · rw [loopGate_warning hp hw, faulted_record h]
        simp only [if_pos (Or.inr ⟨hw, hp⟩ : q.state = .closing ∨ (q.state = .warning ∧ ¬p)), decide_eq_false hp]
      · rw [loopGate_stroke hp hs, faulted_record (q := GateSeq.endCause .stopLoop q) h]
        have hnot : ¬(q.state = .closing ∨ (q.state = .warning ∧ ¬p)) := by
          rintro (hk | hk)
          · exact not_closing_of_stroke hs hk
          · exact not_warning_of_stroke hs hk.1
        simp only [if_neg hnot, decide_eq_false hp, GateSeq.endCause, Option.map_map]; rfl
    · rw [loopGate_closing hp hc, faulted_record h]
      simp only [if_pos (Or.inl hc : q.state = .closing ∨ (q.state = .warning ∧ ¬p)), decide_eq_false hp]

theorem exec_loopAtDraw {s : State} (hr : s.straps.role = .draw) (hm : s.mode ≠ .starting)
    (he : s.EdgeTo stopLoopInput false) :
    exec .stopLoopOpens s = .next ((loopOpenedAtDraw (s.takeEdge stopLoopInput false)).inform s) := by
  show event _ s = _
  rw [event, edge_stopLoop he, State.loopOpens, if_neg (show (s.takeEdge stopLoopInput false).mode ≠ .starting from hm),
    show (s.takeEdge stopLoopInput false).straps.role = .draw from hr]
  dsimp only
  rw [drawLoopOpens_eq (s := s.takeEdge stopLoopInput false) hr hm]

/-- Settles O28: gate by gate as the opening leaves it, and nothing of it undone by the causes that join. -/
theorem stopLoopOpensAtDraw : Obligations.StopLoopOpensAtDraw := by
  intro s hr hm he
  obtain ⟨hbeside, hstop, hfault, houter⟩ :=
    loopOpenedAtDraw_rest (s := s.takeEdge stopLoopInput false) hr hm
  have hrest := GatesRest.congr (bothOpened_rest (s.takeEdge stopLoopInput false)) hbeside.gates
  have hrole : (loopOpenedAtDraw (s.takeEdge stopLoopInput false)).straps.role = .draw := by
    rw [outer_straps houter]; exact hr
  have hgate (g : Gate) : (loopOpenedAtDraw (s.takeEdge stopLoopInput false)).gate g =
      loopGate (s.ProvenClosed g) s.time (s.gate g) := by
    rw [State.gate, hbeside.gates]
    refine (bothOpened_gate g _).trans ?_
    simp only [provenClosed_stopLoop]; rfl
  obtain ⟨hpending, hended, hfaultMark⟩ := bothOpened_pending (s.takeEdge stopLoopInput false)
  dsimp only
  rw [exec_loopAtDraw hr hm he, inform_rest hrole hrest]
  refine ⟨rfl, fun g hh hp => ?_, fun g hw hp => ?_, fun g hh hw hp => ?_, fun g hh => ?_, fun g hh => ?_,
    fun g hh => ⟨hbeside.pending _ (hended g hh), ?_⟩,
    fun g hh hp => hbeside.pending _ (hfaultMark g hh (by rw [provenClosed_stopLoop]; exact hp)), fun g => ?_, ?_, hstop,
    fun g hh hp => hfault g hh (by rw [provenClosed_stopLoop]; exact hp), ?_, ?_, ?_, ?_⟩
  · rw [hgate]; exact loopGate_state_proven hp hh _
  · rw [hgate, loopGate_warning hp hw]; rfl
  · rw [hgate]; exact loopGate_state_unproven hp hh hw _
  · rw [hgate, loopGate_resting hh]
  · rw [hgate]; exact loopGate_record _ _ hh
  · rw [hbeside.drawn]; exact bothOpened_drawn (s := s.takeEdge stopLoopInput false) hh
  · rw [hbeside.windows]; exact bothOpened_windows g _
  · rw [hbeside.wetRest]; exact bothOpened_wetRest _
  · rw [State.conditioned, outer_field houter]; exact conditioned_takeEdge _ _ s
  · rw [outer_mode houter]; rfl
  · rw [outer_store houter]; rfl
  · rw [outer_peers houter]; rfl

end Sys2Proof.Machine
end

section
/-! The six outputs and the attention line (R88, R95, R106, R168, R169, R174). -/

namespace Sys2Proof.Machine

/-! ## The outputs as driven -/

theorem safeState_iff (s : State) :
    s.safeState = true ↔ s.mode = .starting ∨ s.mode = .safe ∨ s.conditioned stopLoopInput = some false := by
  simp only [State.safeState, State.loopOpen, Bool.or_eq_true, beq_iff_eq, or_assoc]

theorem drive_safe {s : State} (h : s.safeState = true) (out : Fin 6) :
    s.drive out = (s.straps.role == .tip && out.val == 1) := if_pos h

theorem drive_commanded {s : State} (h : ¬s.safeState = true) (out : Fin 6) : s.drive out = s.command out := if_neg h

theorem isOffered_iff (t : TipStage) : t.isOffered = true ↔ ∃ load, t = .offered load := by
  cases t <;> simp [TipStage.isOffered]

theorem power_iff (b : BreakerState) : b.power = true ↔ b = .returning ∨ ∃ token, b = .working token := by
  cases b <;> simp [BreakerState.power]

theorem eventOfBit_exists (i : Nat) (h : i < 12) : ∃ k : EventKind, k.bit = i := by
  match i, h with
  | 0, _ => exact ⟨.restart, rfl⟩
  | 1, _ => exact ⟨.holdChange, rfl⟩
  | 2, _ => exact ⟨.peerChange, rfl⟩
  | 3, _ => exact ⟨.tipOutcome, rfl⟩
  | 4, _ => exact ⟨.drawEnd, rfl⟩
  | 5, _ => exact ⟨.breakerChange, rfl⟩
  | 6, _ => exact ⟨.hangup, rfl⟩
  | 7, _ => exact ⟨.wetChange, rfl⟩
  | 8, _ => exact ⟨.model, rfl⟩
  | 9, _ => exact ⟨.line, rfl⟩
  | 10, _ => exact ⟨.fault, rfl⟩
  | 11, _ => exact ⟨.profile, rfl⟩

/-- A set of event kinds is not empty where it has the bit of a kind. -/
theorem flags_ne_zero_iff (x : BitVec 12) : x ≠ 0#12 ↔ ∃ k : EventKind, x.getLsbD k.bit = true := by
  refine ⟨fun h => Classical.byContradiction fun hnone => h ?_, ?_⟩
  · refine BitVec.eq_of_getLsbD_eq fun i hi => ?_
    obtain ⟨k, rfl⟩ := eventOfBit_exists i hi
    rw [BitVec.getLsbD_zero]
    exact Bool.eq_false_iff.mpr fun hk => hnone ⟨k, hk⟩
  · rintro ⟨k, hk⟩ rfl
    rw [BitVec.getLsbD_zero] at hk
    cases hk

theorem attention_iff (s : State) :
    s.attention = true ↔ ∃ k : EventKind, s.isPending k = true ∧ s.port.enabledEvents.getLsbD k.bit = true := by
  simp only [State.attention, bne_iff_ne, flags_ne_zero_iff, BitVec.getLsbD_and, Bool.and_eq_true, State.isPending]

/-! ## The commands the loop's opening leaves -/

/-- At a TIP station without breaker work an entry enters, is reported, and leaves the breaker as it is. -/
theorem holdTaken_tip {s : State} (hr : s.straps.role = .tip) (hw : s.workToken = none) (holder : Nat)
    (body : HoldBody) (l : List Hold) :
    (holdTaken holder body l s).holds = l ∧ (holdTaken holder body l s).breaker = s.breaker := by
  let u := holdReported holder (.holdSet body) (State.mark .holdChange { s with holds := l })
  have hu : u.holds = l ∧ u.breaker = s.breaker := by
    show (holdReported _ _ _).holds = l ∧ (holdReported _ _ _).breaker = s.breaker
    unfold holdReported
    split
    · exact ⟨handOver_holds _ _, handOver_breaker _ _⟩
    · exact ⟨rfl, rfl⟩
  have hrole : u.straps.role = .tip := by
    show (holdReported _ _ _).straps.role = .tip
    rw [← reportHold_eq]; exact (congrArg Straps.role (outer_straps (reportHold_outer _ _ _))).trans hr
  have hwithdrawn : (u.withdrawTip .hold).holds = l ∧ (u.withdrawTip .hold).breaker = s.breaker :=
    ⟨(withdrawTip_holds _ _).trans hu.1, (withdrawTip_breaker _ _).trans hu.2⟩
  have hheld : workHeld (u.withdrawTip .hold) = u.withdrawTip .hold :=
    if_pos ((workToken_congr (congrArg Breaker.state hwithdrawn.2)).trans hw)
  show (holdFelt holder body.kind u).holds = l ∧ (holdFelt holder body.kind u).breaker = s.breaker
  unfold holdFelt
  rw [hrole]
  cases body.kind with
  | halt => dsimp only; rw [hheld]; exact hwithdrawn
  | entry =>
    dsimp only
    split
    · rw [hheld]; exact hwithdrawn
    · exact hu
  | hangup => exact hwithdrawn

theorem enterHold_tip {s : State} (hr : s.straps.role = .tip) (hw : s.workToken = none) (holder : Nat)
    (body : HoldBody) :
    (∃ h ∈ (s.enterHold holder body).holds, h.body.kind = body.kind) ∧
    (s.enterHold holder body).breaker = s.breaker := by
  cases hf : s.holdOf holder body.kind with
  | none =>
    obtain ⟨hl, hb⟩ := holdTaken_tip hr hw holder body (s.holds ++ [⟨holder, s.time, body⟩])
    rw [enterHold_new ((holdOf_none_iff _ _ _).mp hf), hl]
    exact ⟨⟨_, List.mem_append_right _ (List.mem_singleton.mpr rfl), rfl⟩, hb⟩
  | some e =>
    have hmem := List.mem_of_find?_eq_some hf
    have hof := (isOf_iff _ _ _).mp (List.find?_some hf)
    by_cases he : e.body = body
    · rw [enterHold_same hf he]
      exact ⟨⟨e, hmem, congrArg HoldBody.kind he⟩, rfl⟩
    · obtain ⟨hl, hb⟩ := holdTaken_tip hr hw holder body
        (s.holds.map (fun h => if h.holder = holder ∧ h.body.kind = body.kind then { h with body := body } else h))
      rw [enterHold_changed hf he, hl]
      exact ⟨⟨_, List.mem_map_of_mem hmem, by rw [if_pos hof]⟩, hb⟩

theorem workToken_of_power {s : State} (h : s.breaker.state.power = false) : s.workToken = none := by
  unfold State.workToken
  split
  next token hs => rw [hs] at h; cases h
  all_goals rfl

theorem dropBreaker_power (s : State) : s.dropBreaker.breaker.state.power = false := by
  rw [dropBreaker_eq]
  split
  · rw [← parkBreaker_eq]
    exact congrArg BreakerState.power (informBreakerIn_quiet (s.enterBreaker .parked)).breaker
  · rfl

theorem breakerLoopOpens_power (s : State) : s.breakerLoopOpens.breaker.state.power = false := by
  unfold State.breakerLoopOpens
  split
  next => exact dropBreaker_power _
  next => exact dropBreaker_power _
  next h => rw [h]; rfl
  next h => rw [h]; rfl

/-- The stop loop of a TIP station opens: permit lamp red alone is commanded. -/
theorem loopAtTip_commands {s t : State} (hr : s.straps.role = .tip) (hk : s.TipSafe) (hm : s.mode ≠ .starting)
    (he : s.EdgeTo stopLoopInput false) (ht : exec .stopLoopOpens s = .next t) :
    t.tip.stage.isOffered = false ∧ t.breaker.state.power = false := by
  obtain ⟨t', ht', hkept⟩ := exec_kept .stopLoopOpens s rfl
  rw [ht'] at ht
  obtain rfl := Host.Outcome.next.inj ht
  have hsafe := hkept.tipSafe hk (hkept.straps ▸ hr)
  rw [exec_loopAtTip hr hm he] at ht'
  have hv := Host.Outcome.next.inj ht'
  have hpower := breakerLoopOpens_power (s.takeEdge stopLoopInput false)
  have hrole : (s.takeEdge stopLoopInput false).breakerLoopOpens.straps.role = .tip :=
    (congrArg Straps.role (outer_straps (breakerLoopOpens_outer _))).trans hr
  obtain ⟨⟨h, hh, hkind⟩, hbreaker⟩ := enterHold_tip hrole (workToken_of_power hpower) s.own
    (.halt { (s.takeEdge stopLoopInput false).breakerLoopOpens.ownCauses with stopLoop := true })
  have hquiet := inform_quiet (State.enterHold s.own
    (.halt { (s.takeEdge stopLoopInput false).breakerLoopOpens.ownCauses with stopLoop := true })
    (s.takeEdge stopLoopInput false).breakerLoopOpens) s
  rw [← hv] at hsafe ⊢
  refine ⟨?_, by rw [hquiet.breaker, hbreaker]; exact hpower⟩
  have hclosed := hsafe.1 ⟨h, by rw [hquiet.holds]; exact hh, .inl hkind⟩
  exact Bool.eq_false_iff.mpr fun ho => hclosed (by
    obtain ⟨load, hload⟩ := (isOffered_iff _).mp ho
    rw [State.TipOpen, hload]; rfl)

/-- The stop loop of a DRAW station opens: no gate is left drawing or closing. -/
theorem loopAtDraw_gates {s t : State} (hr : s.straps.role = .draw) (hm : s.mode ≠ .starting)
    (he : s.EdgeTo stopLoopInput false) (ht : exec .stopLoopOpens s = .next t) (g : Gate) :
    (t.gate g).state.inHand = false := by
  obtain ⟨hexec, hproven, hwarn, hstroke, hstays, -⟩ := stopLoopOpensAtDraw s hr hm he
  rw [hexec] at ht
  obtain rfl := Host.Outcome.next.inj ht
  by_cases hh : (s.gate g).state.inHand = true
  · by_cases hp : s.ProvenClosed g
    · rw [hproven g hh hp]; rfl
    · by_cases hw : (s.gate g).state = .warning
      · rw [hwarn g hw hp]; rfl
      · rw [hstroke g hh hw hp]; rfl
  · rw [hstays g (Bool.eq_false_iff.mpr hh)]; exact Bool.eq_false_iff.mpr hh

theorem commands_of_not_inHand {q : GateState} (h : q.inHand = false) :
    (q == .opening) = false ∧ (q == .closing) = false ∧ (q == .warning) = false := by
  cases q with
  | closed | fault c => exact ⟨rfl, rfl, rfl⟩
  | warning | opening | opened | closing => cases h

theorem loopOpened_conditioned {s t : State} (hm : s.mode ≠ .starting) (he : s.EdgeTo stopLoopInput false)
    (ht : exec .stopLoopOpens s = .next t) : t.conditioned stopLoopInput = some false := by
  cases hr : s.straps.role with
  | tip =>
    rw [exec_loopAtTip hr hm he] at ht
    obtain rfl := Host.Outcome.next.inj ht
    rw [State.conditioned, outer_field ((inform_outer _ _).trans ((enterHold_outer _ _ _).trans (breakerLoopOpens_outer _)))]
    exact conditioned_takeEdge _ _ s
  | draw =>
    obtain ⟨hexec, -, -, -, -, -, -, -, -, -, -, -, h, -⟩ := stopLoopOpensAtDraw s hr hm he
    rw [hexec] at ht
    obtain rfl := Host.Outcome.next.inj ht
    exact h

/-- After the opening what is driven is what is commanded: at a TIP station the permit lamp red, at a DRAW station
nothing. -/
theorem loopOpened_drive {s t : State} (hk : s.TipSafe) (hm : s.mode ≠ .starting) (he : s.EdgeTo stopLoopInput false)
    (ht : exec .stopLoopOpens s = .next t) (out : Fin 6) : t.drive out = t.command out := by
  rw [drive_safe ((safeState_iff t).mpr (.inr (.inr (loopOpened_conditioned hm he ht))))]
  have hstraps : t.straps = s.straps := by
    obtain ⟨t', ht', hkept⟩ := exec_kept .stopLoopOpens s rfl
    rw [ht'] at ht
    obtain rfl := Host.Outcome.next.inj ht
    exact hkept.straps
  unfold State.command
  cases hr : s.straps.role with
  | tip =>
    obtain ⟨hoffered, hpower⟩ := loopAtTip_commands hr hk hm he ht
    rw [hstraps, hr, hoffered, hpower]
    match out with
    | 0 | 1 | 2 | 3 | 4 | 5 => rfl
  | draw =>
    obtain ⟨hao, hac, haw⟩ := commands_of_not_inHand (loopAtDraw_gates hr hm he ht .a)
    obtain ⟨hbo, hbc, hbw⟩ := commands_of_not_inHand (loopAtDraw_gates hr hm he ht .b)
    simp only [State.gate, PerGate.get] at hao hac haw hbo hbc hbw
    rw [hstraps, hr, hao, hac, haw, hbo, hbc, hbw]
    match out with
    | 0 | 1 | 2 | 3 | 4 | 5 => rfl

/-! ## The statement -/

theorem command_tip {s : State} (hr : s.straps.role = .tip) :
    (s.command 0 = true ↔ ∃ load, s.tip.stage = .offered load) ∧
    (s.command 1 = true ↔ ∀ load, s.tip.stage ≠ .offered load) ∧
    (s.command 2 = true ↔ s.breaker.state = .returning ∨ ∃ token, s.breaker.state = .working token) ∧
    s.command 3 = false ∧ s.command 4 = false ∧ s.command 5 = false := by
  have hred : (!s.tip.stage.isOffered) = true ↔ ∀ load, s.tip.stage ≠ .offered load := by
    rw [Bool.not_eq_true', Bool.eq_false_iff, ne_eq, isOffered_iff]
    exact not_exists
  unfold State.command
  rw [hr]
  exact ⟨isOffered_iff _, hred, power_iff _, rfl, rfl, rfl⟩

theorem command_draw {s : State} (hr : s.straps.role = .draw) :
    (s.command 0 = true ↔ s.gates.a.state = .opening) ∧ (s.command 1 = true ↔ s.gates.a.state = .closing) ∧
    (s.command 2 = true ↔ s.gates.a.state = .warning) ∧
    (s.command 3 = true ↔ s.gates.b.state = .opening) ∧ (s.command 4 = true ↔ s.gates.b.state = .closing) ∧
    (s.command 5 = true ↔ s.gates.b.state = .warning) := by
  unfold State.command
  rw [hr]
  exact ⟨beq_iff_eq, beq_iff_eq, beq_iff_eq, beq_iff_eq, beq_iff_eq, beq_iff_eq⟩

/-- Settles O29. -/
theorem outputsAndAttention : Obligations.OutputsAndAttention := by
  refine ⟨fun s => ?_, fun s t hk hm he ht => loopOpened_drive hk hm he ht⟩
  dsimp only
  rw [← safeState_iff]
  refine ⟨fun h => ?_, fun h hr => ?_, fun h hr => ?_, attention_iff s⟩
  · simp only [drive_safe h, Bool.and_eq_true, Bool.and_eq_false_iff, beq_iff_eq]
    exact ⟨.inr rfl, and_iff_left rfl, .inr rfl, .inr rfl, .inr rfl, .inr rfl⟩
  · simp only [drive_commanded h]
    exact command_tip hr
  · simp only [drive_commanded h]
    exact command_draw hr

end Sys2Proof.Machine
end

section
/-! The column's changes in the rules' own terms (R9, R11, R21 to R23, R30 to R32), and what they do at the
sequencers. -/

namespace Sys2Proof.Machine

/-! ## Layers that join -/

theorem layers_cons (capacity : Nat) (g : Segment) (layers : List Segment) (c : Column) :
    Column.layers capacity (g :: layers) c =
      let added := min g.volume (capacity - totalVolume c.segments)
      let next := Column.layers capacity layers (c.join { g with volume := added })
      (next.1, (g.volume - added) + next.2) := by
  have hspill : g.volume - (capacity - totalVolume c.segments) =
      g.volume - min g.volume (capacity - totalVolume c.segments) := by omega
  rw [Column.layers, Column.layer, splitTip]
  dsimp only
  rw [hspill]

theorem layers_volume (capacity : Nat) (layers : List Segment) (c : Column)
    (h : totalVolume c.segments ≤ capacity) :
    totalVolume (Column.layers capacity layers c).1.segments + (Column.layers capacity layers c).2 =
      totalVolume c.segments + totalVolume layers ∧
    totalVolume (Column.layers capacity layers c).1.segments ≤ capacity := by
  induction layers generalizing c with
  | nil => exact ⟨rfl, h⟩
  | cons g gs ih =>
    have hjoin := join_volume { g with volume := min g.volume (capacity - totalVolume c.segments) } c
    obtain ⟨hsum, hle⟩ := ih (c.join { g with volume := min g.volume (capacity - totalVolume c.segments) })
      (by rw [hjoin]; dsimp only; omega)
    rw [layers_cons]
    refine ⟨?_, hle⟩
    rw [hjoin] at hsum
    rw [totalVolume_cons]
    dsimp only at hsum ⊢
    omega

theorem join_spill (g : Segment) (c : Column) :
    (c.join g).spillVolume = c.spillVolume ∧ (c.join g).spillCount = c.spillCount := by
  unfold Column.join
  split
  · exact ⟨rfl, rfl⟩
  · split <;> exact ⟨rfl, rfl⟩

theorem layers_spill (capacity : Nat) (layers : List Segment) (c : Column) :
    (Column.layers capacity layers c).1.spillVolume = c.spillVolume ∧
    (Column.layers capacity layers c).1.spillCount = c.spillCount := by
  induction layers generalizing c with
  | nil => exact ⟨rfl, rfl⟩
  | cons g gs ih =>
    obtain ⟨hv, hc⟩ := join_spill { g with volume := min g.volume (capacity - totalVolume c.segments) } c
    rw [layers_cons]
    exact ⟨(ih _).1.trans hv, (ih _).2.trans hc⟩

/-- The column with the spill of a change counted. -/
def spillCounted (c : Column) (spill : Nat) (joined : Column) : Column :=
  { joined with spillVolume := min (c.spillVolume + spill) 4294967295, spillCount := min (c.spillCount + 1) 65535 }

theorem afterLayers_whole {capacity : Nat} {layers : List Segment} {c : Column}
    (h : (Column.layers capacity layers c).2 = 0) : c.afterLayers capacity layers = (Column.layers capacity layers c).1 :=
  if_pos h

theorem afterLayers_spilt {capacity : Nat} {layers : List Segment} {c : Column}
    (h : (Column.layers capacity layers c).2 ≠ 0) :
    c.afterLayers capacity layers =
      spillCounted c (Column.layers capacity layers c).2 (Column.layers capacity layers c).1 := by
  obtain ⟨hv, hc⟩ := layers_spill capacity layers c
  rw [Column.afterLayers]
  dsimp only
  rw [if_neg h, hv, hc]
  rfl

theorem layersTaken_whole {layers : List Segment} {s : State} (hs : s.column.seeded = true)
    (h : (Column.layers s.prof.capacity layers s.column).2 = 0) :
    layersTaken layers s = columnTaken (Column.layers s.prof.capacity layers s.column).1 s :=
  (if_neg (ne_false_of_eq_true hs)).trans (if_pos h)

theorem layersTaken_spilt {layers : List Segment} {s : State} (hs : s.column.seeded = true)
    (h : (Column.layers s.prof.capacity layers s.column).2 ≠ 0) :
    layersTaken layers s = modelTold .overfull (columnTaken (spillCounted s.column
      (Column.layers s.prof.capacity layers s.column).2 (Column.layers s.prof.capacity layers s.column).1) s) :=
  (if_neg (ne_false_of_eq_true hs)).trans (if_neg h)

theorem addLayers_eq (layers : List Segment) (s : State) : s.addLayers layers = layersTaken layers s := by
  cases hs : s.column.seeded with
  | false => exact (if_neg (ne_true_of_eq_false hs)).trans (if_pos hs).symm
  | true =>
    refine (if_pos hs).trans ?_
    by_cases hspill : (Column.layers s.prof.capacity layers s.column).2 = 0
    · rw [layersTaken_whole hs hspill, columnTaken_eq, ← afterLayers_whole hspill]
      exact if_pos hspill
    · rw [layersTaken_spilt hs hspill, columnTaken_eq, modelTold_eq, ← afterLayers_spilt hspill]
      exact if_neg hspill

/-! ## Re-anchors -/

theorem growTop_eq {segments : List Segment} {top : Segment} (h : segments.getLast? = some top) (v : Nat) :
    growTop segments v = segments.dropLast ++ [{ top with volume := top.volume + v, estimated := true }] := by
  obtain ⟨below, rfl⟩ := List.getLast?_eq_some_iff.mp h
  rw [growTop_append, List.dropLast_concat]

theorem reanchored_eq (target : Nat) (segments : List Segment) : reanchored target segments = movedTo target segments := by
  unfold reanchored movedTo
  show _ = if target = totalVolume segments then _ else if target < totalVolume segments then
    takeTop segments (totalVolume segments - target) else _
  by_cases heq : target = totalVolume segments
  · rw [if_pos heq, if_neg (by omega), if_neg (by omega)]
  · rw [if_neg heq]
    by_cases hlt : target < totalVolume segments
    · rw [if_pos hlt, if_pos hlt]
    · rw [if_neg hlt, if_neg hlt, if_pos (by omega)]
      cases segments with
      | nil => rfl
      | cons g gs =>
        have hlast := List.getLast?_eq_some_getLast (l := g :: gs) nofun
        rw [hlast]
        exact growTop_eq hlast _

theorem reanchor_eq (depth : Nat) (s : State) : s.reanchor depth = reanchoredAt depth s := by
  rw [reanchoredAt, ← reanchored_eq, columnTaken_eq]
  rfl

theorem reanchor_segments (depth : Nat) (s : State) :
    (s.reanchor depth).column.segments = reanchored (s.target depth) s.column.segments := by
  have hset := setColumn_column { s.column with segments := reanchored (s.target depth) s.column.segments } s
  unfold State.reanchor
  dsimp only
  split
  · rw [hset]
  · exact congrArg Column.segments hset

theorem reanchor_volume (depth : Nat) (s : State) :
    totalVolume (s.reanchor depth).column.segments = volumeBelow s.prof.bands depth := by
  rw [reanchor_segments, reanchored_volume]
  rfl

theorem takeTop_all {segments : List Segment} {v : Nat} (h : totalVolume segments ≤ v) : takeTop segments v = [] := by
  rw [takeTop, takeVolume_all (by rw [totalVolume_reverse]; exact h), List.reverse_nil]

theorem takeTop_part {rest gone : List Segment} {g : Segment} {v : Nat} (h : totalVolume gone ≤ v)
    (hg : v < totalVolume gone + g.volume) :
    takeTop (rest ++ g :: gone) v = rest ++ [{ g with volume := g.volume - (v - totalVolume gone) }] := by
  rw [takeTop, List.reverse_append, List.reverse_cons, List.append_assoc, List.singleton_append,
    takeVolume_part (by rw [totalVolume_reverse]; exact h) (by rw [totalVolume_reverse]; exact hg), totalVolume_reverse,
    List.reverse_cons, List.reverse_reverse]

/-! ## Merges -/

theorem higher_countsWet (m n : Moisture) : (m.higher n).countsWet = (m.countsWet || n.countsWet) := by
  cases m <;> cases n <;> rfl

theorem higher_eq (m n : Moisture) : m.higher n = if moistureCode m < moistureCode n then n else m := by
  cases m <;> cases n <;> rfl

/-- A merge lowers no wet volume: the merged segment is wet where either was. -/
theorem mergeBottom_wet (lower upper : Segment) (rest : List Segment) (zone : Nat) :
    wetWithin (lower :: upper :: rest) zone ≤ wetWithin (mergeBottom (lower :: upper :: rest)) zone := by
  simp only [wetWithin, mergeBottom, mergeSegments, higher_countsWet, Nat.sub_sub, ← Nat.add_assoc]
  refine Nat.add_le_add_right ?_ _
  cases lower.moisture.countsWet with
  | false =>
    cases upper.moisture.countsWet with
    | false => exact Nat.le_refl _
    | true =>
      show 0 + min upper.volume (zone - lower.volume) ≤ min (lower.volume + upper.volume) zone
      omega
  | true =>
    cases upper.moisture.countsWet with
    | false =>
      show min lower.volume zone + 0 ≤ min (lower.volume + upper.volume) zone
      omega
    | true =>
      show min lower.volume zone + min upper.volume (zone - lower.volume) ≤ min (lower.volume + upper.volume) zone
      omega

theorem mergeBottom_eq (lower upper : Segment) (rest : List Segment) :
    mergeBottom (lower :: upper :: rest) =
      ⟨lower.volume + upper.volume,
        if moistureCode lower.moisture < moistureCode upper.moisture then upper.moisture else lower.moisture,
        if lower.origin = upper.origin then lower.origin else none, lower.oversize || upper.oversize,
        lower.estimated || upper.estimated, lower.unauthorised || upper.unauthorised⟩ :: rest := by
  rw [mergeBottom, mergeSegments, higher_eq]

/-- Settles O60, law by law. -/
theorem columnVolumesAddUp : Obligations.ColumnVolumesAddUp := by
  refine ⟨fun capacity layers c h => layers_volume capacity layers c h, fun density mass c => ?_,
    fun depth s => ⟨reanchor_eq depth s, reanchor_volume depth s⟩, addLayers_eq,
    fun capacity g layers c => ⟨rfl, layers_cons capacity g layers c⟩,
    fun gone rest g v => ⟨takeTop_all, takeTop_part⟩,
    fun lower upper rest zone => ⟨mergeBottom_volume _, mergeBottom_eq lower upper rest,
      mergeBottom_wet lower upper rest zone⟩,
    fun g c => ⟨fun h => if_pos h, fun h hlen => ?_, fun h hlen => ?_⟩⟩
  · rw [afterDraw_segments, takeVolume_volume]; rfl
  · rw [Column.join, if_neg h]; exact if_pos hlen
  · rw [Column.join, if_neg h, if_neg (by simp only [Config.maxSegments]; omega)]; rfl

end Sys2Proof.Machine
end

section
/-! The column's and the reservations' changes at the sequencers (R19, R53, R83, R91, R121). -/

namespace Sys2Proof.Machine

/-! ## A new wet status at the gates (R53) -/

theorem gateNoteWet_eq (status : WetStatus) (limit : Nat) (q : GateSeq) :
    GateSeq.noteWet status limit q = wetToldToGate status limit q := by
  unfold GateSeq.noteWet wetToldToGate
  by_cases hd : q.state.drawing = true
  · have hq : q.state = .warning ∨ q.state = .opening ∨ q.state = .opened := (drawing_iff q).mp hd
    rw [if_pos hd]
    cases status with
    | clear => simp
    | restricted => simp only [hq, Option.isNone_iff_eq_none, GateSeq.onRecord, true_and, reduceCtorEq, if_false]
    | refused => simp only [hq, GateSeq.onRecord, true_and, if_true]
  · have hq : ¬(q.state = .warning ∨ q.state = .opening ∨ q.state = .opened) := fun h => hd ((drawing_iff q).mpr h)
    rw [if_neg hd, if_neg (fun h => hq h.1), if_neg (fun h => hq h.1)]

theorem role_tip_iff (r : Role) : r = .tip ↔ ¬r = .draw := by cases r <;> simp

theorem noteWet_eq (s before : State) : s.noteWet before = wetTold before s := by
  unfold State.noteWet wetTold
  by_cases h : s.straps.role = .draw ∧ before.watch.wet ≠ s.watch.wet
  · rw [if_pos h, if_neg (fun hk => hk.elim h.2 fun ht => (role_tip_iff _).mp ht h.1), ← gateNoteWet_eq, ← gateNoteWet_eq]
    rfl
  · rw [if_neg h, if_pos]
    by_cases hw : before.watch.wet = s.watch.wet
    · exact .inl hw
    · exact .inr ((role_tip_iff _).mpr fun hr => h ⟨hr, hw⟩)

theorem wetToldToGate_mass (status : WetStatus) (limit : Nat) (q : GateSeq) :
    (wetToldToGate status limit q).mass = q.mass := by
  unfold wetToldToGate
  dsimp only
  split
  · rfl
  · split <;> rfl

/-- A CLEAR status tells the gates nothing. -/
theorem wetToldToGate_clear (limit : Nat) (q : GateSeq) : wetToldToGate .clear limit q = q := by
  unfold wetToldToGate
  simp

theorem wetTold_clear {s : State} (before : State) (h : s.watch.wet = .clear) : wetTold before s = s := by
  unfold wetTold
  rw [h, wetToldToGate_clear, wetToldToGate_clear]
  split <;> rfl

theorem wetTold_same {s before : State} (h : s.watch.wet = before.watch.wet) : wetTold before s = s :=
  if_neg fun hk => hk.2 h.symm

/-- Being told of the wet status touches the gates' records and caps alone. -/
theorem wetTold_rest (before s : State) :
    (wetTold before s).column = s.column ∧ (wetTold before s).watch = s.watch ∧
    (wetTold before s).profile = s.profile ∧ ∀ g, ((wetTold before s).gate g).mass = (s.gate g).mass := by
  unfold wetTold
  split
  · exact ⟨rfl, rfl, rfl, fun g => by cases g <;> exact wetToldToGate_mass _ _ _⟩
  · exact ⟨rfl, rfl, rfl, fun _ => rfl⟩

/-! ## End causes of a change (R53, R111, R121) -/

theorem columnChanged_iff (before after : State) :
    columnChanged before after = true ↔
      after.column.segments ≠ before.column.segments ∨ after.column.seeded ≠ before.column.seeded := by
  simp only [columnChanged, Bool.or_eq_true, bne_iff_ne, ne_comm]

/-- The cushion ends a draw: a changed column at or below it. -/
abbrev CushionMet (s before : State) : Prop :=
  (s.column.segments ≠ before.column.segments ∨ s.column.seeded ≠ before.column.seeded) ∧
  s.columnVolume ≤ s.prof.cushion

theorem cushionEnds_iff (s before : State) : s.cushionEnds before = true ↔ CushionMet s before := by
  simp only [State.cushionEnds, Bool.and_eq_true, decide_eq_true_eq, columnChanged_iff, CushionMet]

theorem wetEnds_same {s before : State} (h : s.watch.wet = before.watch.wet) (g : Gate) : s.wetEnds before g = false := by
  simp [State.wetEnds, h]

theorem wetEnds_clear {s : State} (before : State) (h : s.watch.wet = .clear) (g : Gate) : s.wetEnds before g = false := by
  simp [State.wetEnds, h]

theorem wetEnds_refused {s before : State} (h : s.watch.wet = .refused) (hb : before.watch.wet ≠ .refused) (g : Gate) :
    s.wetEnds before g = true := by
  simp [State.wetEnds, h, hb]

theorem wetEnds_restricted {s before : State} (h : s.watch.wet = .restricted) (hb : before.watch.wet ≠ .restricted)
    (g : Gate) :
    s.wetEnds before g = true ↔ (before.gate g).wetCap = none ∧ s.prof.wetDrawLimit ≤ (s.gate g).mass := by
  simp [State.wetEnds, h, hb]

theorem informedCause_told (s before : State) (g : Gate) :
    (wetTold before s).informedCause before g = s.informedCause before g := by
  obtain ⟨hc, hw, hp, hm⟩ := wetTold_rest before s
  simp only [State.informedCause, State.wetEnds, State.cushionEnds, columnChanged, State.columnVolume, State.prof, hc, hw,
    hp, hm]
  rfl

theorem inform_draw {s : State} (hr : s.straps.role = .draw) (before : State) :
    s.inform before =
      ((wetTold before s).endDrawIf (s.informedCause before .a) .a).endDrawIf (s.informedCause before .b) .b := by
  rw [State.inform, hr]
  dsimp only
  rw [State.informGates, noteWet_eq, informedCause_told, informedCause_told]

theorem informedCause_wet {s before : State} {g : Gate} (h : s.wetEnds before g = true) :
    s.informedCause before g = some .wetLimit := if_pos h

theorem informedCause_dry {s before : State} {g : Gate} (h : s.wetEnds before g = false) :
    s.informedCause before g = if CushionMet s before then some .cushion else none := by
  rw [State.informedCause, if_neg (ne_true_of_eq_false h)]
  exact ite_of_iff (cushionEnds_iff s before) rfl rfl

/-! ## The room of an OFFERED tip (R83) -/

theorem roomChanged_iff (s before : State) :
    s.roomChanged before = true ↔
      (s.column.segments ≠ before.column.segments ∨ s.column.seeded ≠ before.column.seeded) ∨
      s.reservations ≠ before.reservations := by
  rw [State.roomChanged, Bool.or_eq_true, columnChanged_iff, bne_iff_ne, ne_comm (a := before.reservations)]

theorem inform_tip {s : State} (hr : s.straps.role = .tip) (before : State) :
    s.inform before = if s.roomChanged before = true then s.recheckTip else s := by
  rw [State.inform, hr]

theorem recheckTip_offered {s : State} {load : Load} (h : s.tip.stage = .offered load) (hs : s.column.seeded = true) :
    s.recheckTip = if s.recheckRoom < load.volume then s.withdrawTip .room else s := by
  rw [State.recheckTip, h]
  exact ite_of_iff (and_iff_right hs) rfl rfl

theorem recheckTip_stays {s : State} (h : (∀ load, s.tip.stage ≠ .offered load) ∨ s.column.seeded = false) :
    s.recheckTip = s := by
  unfold State.recheckTip
  split
  next load ho =>
    have hs := h.resolve_left fun hk => hk load ho
    exact if_neg fun hk => ne_true_of_eq_false hs hk.1
  all_goals rfl

/-- Settles O24: the tip by its room, the gates by the wet status and the cushion. -/
theorem columnChangeTold : Obligations.ColumnChangeTold := by
  intro s before
  refine ⟨fun hr => ⟨fun load ho hchanged hs => ?_, fun hstill => ?_⟩, fun hr => ⟨fun hw hlow => ?_, fun hw hlow => ?_,
    fun hw hb => ?_, fun hw hb hcaps => ?_⟩⟩
  · rw [inform_tip hr, if_pos ((roomChanged_iff s before).mpr hchanged), recheckTip_offered ho hs]
    rfl
  · rw [inform_tip hr]
    by_cases hchanged : s.roomChanged before = true
    · rw [if_pos hchanged]
      refine recheckTip_stays (hstill.imp_right fun h => h.resolve_right fun hk => ?_)
      exact ((roomChanged_iff s before).mp hchanged).elim hk.1 fun h => h hk.2
    · exact if_neg hchanged
  · have hdry (g : Gate) : s.wetEnds before g = false := hw.elim (wetEnds_same · g) (wetEnds_clear before · g)
    rw [inform_draw hr, informedCause_dry (hdry .a), informedCause_dry (hdry .b), if_pos hlow,
      hw.elim wetTold_same (wetTold_clear before)]
    rfl
  · have hdry (g : Gate) : s.wetEnds before g = false := hw.elim (wetEnds_same · g) (wetEnds_clear before · g)
    rw [inform_draw hr, informedCause_dry (hdry .a), informedCause_dry (hdry .b), if_neg hlow,
      hw.elim wetTold_same (wetTold_clear before)]
    rfl
  · rw [inform_draw hr, informedCause_wet (wetEnds_refused hw hb .a), informedCause_wet (wetEnds_refused hw hb .b)]
    rfl
  · have hended (g : Gate) (t : State) : t.endDrawIf (s.informedCause before g) g =
        if (s.gate g).wetCap = none ∧ s.prof.wetDrawLimit ≤ (s.gate g).mass then t.endDraw .wetLimit g
        else if CushionMet s before then t.endDraw .cushion g else t := by
      rw [hcaps g]
      by_cases hwet : s.wetEnds before g = true
      · rw [informedCause_wet hwet, if_pos ((wetEnds_restricted hw hb g).mp hwet), State.endDrawIf]
      · rw [informedCause_dry (Bool.eq_false_iff.mpr hwet), if_neg fun h => hwet ((wetEnds_restricted hw hb g).mpr h)]
        split <;> rfl
    rw [inform_draw hr, hended, hended]

end Sys2Proof.Machine
end

section
/-! Readings that enter, the peer table's timers, the departure from STARTING, and the profile requests. -/

namespace Sys2Proof.Machine

/-! ## Readings (R34, R165 to R167) -/

theorem exec_seed {s : State} (h : s.TakesRequests) (depth : Word16) :
    exec (.seed depth) s = .next (answerWith 15 (liveRefusal s) .accepted
      ((s.handOverSurface (min depth.toNat (chuteDepth s.prof.bands)) .manual).inform s) s) :=
  congrArg Host.Outcome.next <| request_answered h (firstFailing_live s) fun _ => rfl

theorem takeRecord_ignored {s : State} (h : ¬s.Live ∨ ∀ e, s.ownEntry = some e → e.sensor = false) (d q : Nat) :
    s.takeRecord d q = { s with field := { s.field with ignored := min (s.field.ignored + 1) 65535 } } := by
  refine if_pos ?_
  rw [Bool.not_eq_true', Bool.and_eq_false_iff]
  refine h.imp (fun hl => Bool.eq_false_iff.mpr fun hm => hl ((live_iff s).mp hm)) fun hs => ?_
  unfold State.sensorFitted
  cases he : s.ownEntry with
  | none => rfl
  | some e => exact hs e he

section
variable {s : State} {e : StationEntry} (hl : s.Live) (he : s.ownEntry = some e) (hs : e.sensor = true)
include hl he hs

theorem sensor_taken : ¬(!(s.mode.live && s.sensorFitted)) = true := by
  rw [(live_iff s).mpr hl, State.sensorFitted, he, Option.map_some, Option.getD_some, hs]
  exact nofun

theorem takeRecord_quality {d q : Nat} (hq : q < s.prof.qMin) :
    s.takeRecord d q = { s with field := { s.field with
      rejectedQuality := min (s.field.rejectedQuality + 1) 65535, lastRaw := some ⟨d, q, s.time, .quality⟩ } } :=
  (if_neg (sensor_taken hl he hs)).trans (if_pos hq)

theorem takeRecord_range {d q : Nat} (hq : s.prof.qMin ≤ q) (hd : e.maxRange < d) :
    s.takeRecord d q = { s with field := { s.field with
      rejectedRange := min (s.field.rejectedRange + 1) 65535, lastRaw := some ⟨d, q, s.time, .range⟩ } } := by
  have hrange : s.maxRange < d := by rw [State.maxRange, he]; exact hd
  exact (if_neg (sensor_taken hl he hs)).trans ((if_neg (Nat.not_lt.mpr hq)).trans (if_pos hrange))

theorem takeRecord_accepted {d q : Nat} (hq : s.prof.qMin ≤ q) (hd : d ≤ e.maxRange) :
    s.takeRecord d q = s.acceptReading d q := by
  have hrange : ¬s.maxRange < d := by rw [State.maxRange, he]; exact Nat.not_lt.mpr hd
  exact (if_neg (sensor_taken hl he hs)).trans ((if_neg (Nat.not_lt.mpr hq)).trans (if_neg hrange))

end

theorem acceptReading_paced {s : State} {e : StationEntry} (he : s.ownEntry = some e) (d q : Nat) :
    s.acceptReading d q = State.pace (min (e.mountDepth + d) (chuteDepth s.prof.bands)) q { s with field := { s.field with
      lastRaw := some ⟨d, q, s.time, .none⟩
      lastAccepted := some ⟨min (e.mountDepth + d) (chuteDepth s.prof.bands), q, s.time⟩ } } := by
  rw [State.acceptReading, State.surfaceOf, he]
  rfl

/-- A ranging record that changes the field terminal alone. -/
theorem exec_record_field {s : State} {d : Word16} {q : BitVec 4} {f : Field}
    (h : s.takeRecord d.toNat q.toNat = { s with field := f }) :
    exec (.rangingRecord (.record d q)) s = .next { s with field := f } :=
  event_same h rfl rfl rfl

/-- Settles O30: a record by the first test it fails, a reading by the pacing timer. -/
theorem readingsEnter : Obligations.ReadingsEnter := by
  refine ⟨⟨fun depth s h => exec_seed h depth, fun d q s => ⟨?_, fun hignored => ?_, fun e hl he hs => ?_⟩⟩,
    fun s hp => ⟨fun depth quality hr => ?_, fun hr => ?_⟩⟩
  · exact event_same (t := { s with field := { s.field with malformed := min (s.field.malformed + 1) 65535 } }) rfl
      rfl rfl rfl
  · exact exec_record_field (takeRecord_ignored hignored _ _)
  · refine ⟨fun hq => exec_record_field (takeRecord_quality hl he hs hq),
      fun hq hd => exec_record_field (takeRecord_range hl he hs hq hd), fun hq hd hp => ?_, fun hq hd hp => ?_⟩
    · refine exec_record_field ((takeRecord_accepted hl he hs hq hd).trans ((acceptReading_paced he _ _).trans ?_))
      exact if_pos hp
    · refine congrArg (fun t => Host.Outcome.next (State.inform t s))
        ((takeRecord_accepted hl he hs hq hd).trans ((acceptReading_paced he _ _).trans ?_))
      exact if_neg (ne_true_of_eq_false hp)
  · refine congrArg (fun t => Host.Outcome.next (State.inform t s)) ((if_pos hp).trans ?_)
    rw [hr]; rfl
  · refine event_same ((if_pos hp).trans ?_) rfl rfl rfl
    rw [hr]; rfl

/-! ## The peer table's timers (R149, R152, R153) -/

theorem silenceRuns_of {s : State} {n : Nat} {r : PeerRecord}
    (h : s.peers.records.find? (fun r => r.station == n) = some r) (hr : r.silence.running = true) :
    s.silenceRuns n = true := by
  rw [State.silenceRuns, State.peer, h]
  exact hr

theorem rollCallRunsOut_eq {s : State} (hm : s.mode = .listening) (hr : s.peers.rollCall.running = true) :
    s.rollCallRunsOut =
      let t : State := { s with
        mode := .ready
        peers := { s.peers with
          rollCall := ⟨false, 0⟩
          records := s.peers.records.map (fun r =>
            if r.presence = .unheard then { r with presence := .silent } else r) } }
      if ∃ r ∈ s.peers.records, r.presence = .unheard then t.mark .peerChange else t := by
  refine (if_pos ⟨hm, hr⟩).trans ?_
  refine ite_of_iff ?_ rfl rfl
  simp only [List.any_eq_true, PeerRecord.unheard, beq_iff_eq]

/-- Settles O46, timer by timer. -/
theorem peerTimersExpire : Obligations.PeerTimersExpire := by
  refine fun n s => ⟨fun r h hr => ?_, fun hm hr => ?_, fun hr => ?_⟩
  · exact event_same (if_pos (silenceRuns_of h hr)) rfl rfl rfl
  · refine event_same (rollCallRunsOut_eq hm hr) ?_ ?_ ?_ <;> dsimp only <;> split <;> rfl
  · exact congrArg (fun t => Host.Outcome.next (State.inform t s)) (if_pos hr)

/-! ## The departure from STARTING (R71, R140, R151, R153, R178) -/

/-- The first frame of an ACTIVE line's empty queue joins it. -/
theorem handOver_first {s : State} (ha : s.line.state = .active) (hq : s.line.queue = []) (f : Frame) :
    s.handOver f = { s with line := { s.line with queue := [⟨f, 0, false, false⟩] } } := by
  have hoffer : s.line.offer f = ({ s.line with queue := [⟨f, 0, false, false⟩] }, none) := by
    unfold Line.offer
    rw [hq, List.find?_nil, ite_self]
    dsimp only
    rw [Line.join, if_pos (by rw [hq]; decide), hq]
    rfl
  rw [State.handOver, ha]
  dsimp only
  rw [State.enqueue, hoffer]
  rfl

/-- The roll-call starts with a profile in force alone. -/
theorem startRollCall_eq (s : State) :
    s.startRollCall = { s with peers := { s.peers with
      rollCall := if s.mode = .listening then ⟨true, 5 * s.prof.statePeriod⟩ else s.peers.rollCall } } := by
  unfold State.startRollCall
  split <;> rfl

theorem modeAfterStarting_safe {s : State} (h : s.profile = none) : s.modeAfterStarting = .safe := by
  rw [State.modeAfterStarting, h]; rfl

theorem modeAfterStarting_listening {s : State} (h : s.profile ≠ none) : s.modeAfterStarting = .listening :=
  if_pos (Option.isSome_iff_ne_none.mpr h)

/-- Settles O51. -/
theorem leavesStarting : Obligations.LeavesStarting := by
  intro s hm hb hq
  refine congrArg Host.Outcome.next ((if_pos ⟨hm, hb⟩).trans ?_)
  rw [State.depart]
  dsimp only
  rw [handOver_first (by rfl) (by exact hq), startRollCall_eq]
  by_cases hp : s.profile = none
  · rw [if_pos hp, if_pos hp, modeAfterStarting_safe hp]; rfl
  · rw [if_neg hp, if_neg hp, modeAfterStarting_listening hp]; rfl

/-! ## The profile requests (R182 to R184) -/

theorem window_iff (s : State) : s.port.window = true ↔ ¬s.port.window = false := by simp

theorem notWriting_iff (s : State) : (s.store.write != .writing) = true ↔ ¬s.store.write = .writing := bne_iff_ne

theorem firstFailing_profileLoad (offset : Word16) (bytes : List Byte) (s : State) :
    firstFailing (s.profileLoadTests offset bytes) = profileLoadRefusal offset bytes s :=
  firstFailing_step (window_iff s) <|
  firstFailing_step (decide_eq_true_iff.trans Nat.not_lt.symm) <|
  firstFailing_step (notWriting_iff s) firstFailing_nil

theorem firstFailing_profileCommit (s : State) : firstFailing s.profileCommitTests = profileCommitRefusal s := by
  refine firstFailing_step (window_iff s) <| firstFailing_step (notWriting_iff s) ?_
  unfold State.bufferFailure
  cases imageFailure s.port.buffer false s.straps <;> rfl

theorem sliceLengthOk_of {bytes : List Byte} (hlow : 1 ≤ bytes.length) (hhigh : bytes.length ≤ 32) :
    sliceLengthOk bytes = true := by
  rw [sliceLengthOk, Bool.and_eq_true, decide_eq_true_iff, decide_eq_true_iff]
  exact ⟨hlow, hhigh⟩

theorem exec_profileLoad {s : State} {bytes : List Byte} (h : s.TakesRequests) (hlow : 1 ≤ bytes.length)
    (hhigh : bytes.length ≤ 32) (offset : Word16) :
    exec (.profileLoad offset bytes) s = .next (answerWith 22 (profileLoadRefusal offset bytes s) .accepted
      { s with port := { s.port with buffer := s.port.buffer.writeAll offset.toNat bytes } } s) := by
  refine congrArg Host.Outcome.next ((if_pos (sliceLengthOk_of hlow hhigh)).trans ?_)
  exact request_answered h (firstFailing_profileLoad offset bytes s) fun _ => inform_same rfl rfl rfl

/-- Settles O54. -/
theorem profileRequestsAnswered : Obligations.ProfileRequestsAnswered := by
  refine fun offset bytes s => ⟨fun h hlow hhigh hwf => ⟨s.port.buffer.writeAll offset.toNat bytes,
    exec_profileLoad h hlow hhigh offset, fun i hi => ?_, fun a ha => ?_⟩, fun h => ⟨?_, ?_⟩, fun hw => ⟨?_, ?_⟩⟩
  · rw [read_writeAll hwf, if_pos (by omega), Nat.add_sub_cancel_left]
  · rw [read_writeAll hwf, if_neg (by omega)]
  · exact congrArg Host.Outcome.next <|
      request_answered h (firstFailing_profileCommit s) fun _ => inform_same rfl rfl rfl
  · exact congrArg Host.Outcome.next <| request_answered h firstFailing_nil fun _ => inform_same rfl rfl rfl
  · exact congrArg Host.Outcome.next (if_pos hw)
  · exact congrArg Host.Outcome.next (if_pos hw)

end Sys2Proof.Machine
end

section
/-! Received frames: the number test, the peer's record, and what each kind but STATE does at its blocks (R66, R67, R90,
R91, R141 to R148, R155 to R157). -/

namespace Sys2Proof.Machine

/-! ## A peer's record -/

theorem peer_updatePeer {n : Nat} {f : PeerRecord → PeerRecord} (hf : ∀ r, (f r).station = r.station) (s : State) :
    (s.updatePeer n f).peer n = (s.peer n).map f := by
  unfold State.peer State.updatePeer State.setPeers
  dsimp only
  rw [List.find?_map]
  have hsame : ((fun r : PeerRecord => r.station == n) ∘ fun r => if r.station = n then f r else r) =
      fun r => r.station == n := by
    funext r
    simp only [Function.comp_apply]
    split <;> simp [hf]
  rw [hsame]
  cases hfind : s.peers.records.find? (fun r => r.station == n) with
  | none => rfl
  | some r =>
    have hstation := List.find?_some hfind
    exact congrArg some (if_pos (beq_iff_eq.mp hstation))

theorem peer_heard (n seq : Nat) (s : State) :
    (s.heard n seq).peer n = (s.peer n).map (PeerRecord.heard seq s.time s.silenceMs) := by
  unfold State.heard
  dsimp only
  have hmark (c : Bool) (k : EventKind) (t : State) : (t.markIf c k).peer n = t.peer n := by cases c <;> rfl
  rw [hmark, peer_updatePeer (f := PeerRecord.heard seq s.time s.silenceMs) (fun _ => rfl)]
  rfl

/-- What an arrival's first two steps leave of the peer's record. -/
theorem heard_record (n seq : Nat) (s : State) :
    (s.heard n seq).peerRole n = s.peerRole n ∧ (s.heard n seq).mismatched n = s.mismatched n ∧
    (s.heard n seq).baselineOf n = s.baselineOf n := by
  simp only [State.peerRole, State.mismatched, State.baselineOf, peer_heard]
  cases s.peer n <;> exact ⟨rfl, rfl, rfl⟩

/-- The peer's record, the received counter and the event summary are all that an arrival's first two steps change. -/
theorem heard_eq (n seq : Nat) (s : State) : ∃ peers line port, s.heard n seq =
    { s with peers := peers, line := line, port := port } := by
  unfold State.heard
  cases ((s.peer n).map (PeerRecord.arrivalMarks seq)).getD false <;> exact ⟨_, _, _, rfl⟩

theorem inform_heard (n seq : Nat) (s : State) : (s.heard n seq).inform s = s.heard n seq := by
  obtain ⟨peers, line, port, h⟩ := heard_eq n seq s
  rw [h]
  exact inform_same rfl rfl rfl

theorem heard_mode (n seq : Nat) (s : State) : (s.heard n seq).mode = s.mode := by
  obtain ⟨peers, line, port, h⟩ := heard_eq n seq s
  rw [h]

theorem isPending_markIf (c : Bool) (k : EventKind) (s : State) :
    (s.markIf c k).isPending k = (s.isPending k || c) := by
  cases c with
  | false => rw [Bool.or_false]; rfl
  | true => rw [Bool.or_true]; exact isPending_mark_self k s

/-- Settles O35. -/
theorem peerHeard_spec : Obligations.PeerHeard := by
  intro h r s hr
  have hmark (c : Bool) (k : EventKind) (t : State) :
      (t.markIf c k).peers = t.peers ∧ (t.markIf c k).line = t.line ∧ (t.markIf c k).column = t.column ∧
      (t.markIf c k).holds = t.holds ∧ (t.markIf c k).reservations = t.reservations ∧ (t.markIf c k).tip = t.tip := by
    cases c <;> exact ⟨rfl, rfl, rfl, rfl, rfl, rfl⟩
  have hpeer : s.peer h.station.toNat = some r := hr
  obtain ⟨hpeers, hline, hcolumn, hholds, hreservations, htip⟩ :=
    hmark (((s.peer h.station.toNat).map (PeerRecord.arrivalMarks h.seq.toNat)).getD false) .peerChange
      ((s.count (fun c => { c with received := bump16 c.received })).updatePeer h.station.toNat
        (PeerRecord.heard h.seq.toNat s.time s.silenceMs))
  refine ⟨hpeers, hline, ?_, hcolumn, hholds, hreservations, htip⟩
  refine (isPending_markIf _ _ _).trans ?_
  rw [hpeer]
  exact (Bool.or_assoc _ _ _).symm

/-! ## The number test (R142) -/

theorem isPeer_iff (n : Nat) (s : State) : s.isPeer n = true ↔ ∃ r ∈ s.peers.records, r.station = n := by
  simp only [State.isPeer, List.any_eq_true, beq_iff_eq]

/-- A frame handed on is heard, and goes to the table's part and the blocks where its kind suits the sender's role. -/
theorem received_handedOn {h : Header} {s : State} (hs : s.HandedOn h) (suits : Option Role → Bool)
    (table blocks : Nat → State → State) :
    s.received h suits table blocks =
      if suits (s.peerRole h.station.toNat) = true then
        let u := table h.station.toNat (peerHeard h s)
        if u.mode = .safe then u else blocks h.station.toNat u
      else unsuited h s := by
  obtain ⟨hline, hown, hpeer⟩ := hs
  rw [State.received, if_neg hline, if_neg hown, if_pos ((isPeer_iff _ s).mpr hpeer)]
  rfl

theorem peerHeard_mode (h : Header) (s : State) : (peerHeard h s).mode = s.mode := heard_mode _ _ s

theorem inform_unsuited (h : Header) (s : State) : (unsuited h s).inform s = unsuited h s := by
  obtain ⟨peers, line, port, hheard⟩ := heard_eq h.station.toNat h.seq.toNat s
  unfold unsuited peerHeard
  rw [hheard]
  exact inform_same rfl rfl rfl

section
variable {h : Header} {s : State} (hs : s.HandedOn h) {suits : Option Role → Bool} {blocks : Nat → State → State}
include hs

theorem event_received_safe (hsuits : suits (s.peerRole h.station.toNat) = true) (hm : s.mode = .safe) :
    event (State.received h suits noTablePart blocks) s = .next (peerHeard h s) := by
  rw [event, received_handedOn hs, if_pos hsuits]
  dsimp only [noTablePart]
  rw [if_pos ((peerHeard_mode h s).trans hm)]
  exact congrArg Host.Outcome.next (inform_heard _ _ s)

theorem event_received_taken (hsuits : suits (s.peerRole h.station.toNat) = true) (hm : s.mode ≠ .safe) :
    event (State.received h suits noTablePart blocks) s =
      .next ((blocks h.station.toNat (peerHeard h s)).inform s) := by
  rw [event, received_handedOn hs, if_pos hsuits]
  dsimp only [noTablePart]
  rw [if_neg (by rw [peerHeard_mode]; exact hm)]

theorem event_received_unsuited {table : Nat → State → State} (hsuits : suits (s.peerRole h.station.toNat) = false) :
    event (State.received h suits table blocks) s = .next (unsuited h s) := by
  rw [event, received_handedOn hs, if_neg (ne_true_of_eq_false hsuits), inform_unsuited h s]

end

/-- Every arrival with a header is a received frame under the number test. -/
theorem exec_received {c : Instr} {h : Header} (hc : receivedHeader c = some h) (s : State) :
    ∃ suits table blocks, exec c s = event (State.received h suits table blocks) s := by
  unfold receivedHeader at hc
  split at hc
  case h_10 => cases hc
  all_goals
    obtain rfl := Option.some.inj hc
    exact ⟨_, _, _, rfl⟩

theorem received_offline {h : Header} {s : State} (hs : s.line.state = .offline) (suits : Option Role → Bool)
    (table blocks : Nat → State → State) : s.received h suits table blocks = s := if_pos hs

theorem received_own {h : Header} {s : State} (hline : s.line.state ≠ .offline) (hown : h.station.toNat = s.own)
    (suits : Option Role → Bool) (table blocks : Nat → State → State) :
    s.received h suits table blocks = s.ownNumberFrame := (if_neg hline).trans (if_pos hown)

theorem received_stranger {h : Header} {s : State} (hline : s.line.state ≠ .offline) (hown : h.station.toNat ≠ s.own)
    (hpeer : ∀ r ∈ s.peers.records, r.station ≠ h.station.toNat) (suits : Option Role → Bool)
    (table blocks : Nat → State → State) : s.received h suits table blocks = s.strangerFrame := by
  have hnot : ¬s.isPeer h.station.toNat = true := fun hk => by
    obtain ⟨r, hr, he⟩ := (isPeer_iff _ s).mp hk
    exact hpeer r hr he
  exact (if_neg hline).trans ((if_neg hown).trans (if_neg hnot))

theorem union_ofDuplicate (c : Causes) : c.union Causes.ofDuplicate = { c with duplicate := true } := by
  simp [Causes.union, Causes.ofDuplicate, Causes.none]

/-- A frame under the own number outside STARTING (R63). -/
theorem ownNumberFrame_eq {s : State} (hm : s.mode ≠ .starting) :
    s.ownNumberFrame = State.enterHold s.own (.halt { s.ownCauses with duplicate := true })
      (let t : State := { s with line := { s.line with counters := { s.line.counters with
          ownNumber := min (s.line.counters.ownNumber + 1) 65535 } } }
       if s.ownCauses.duplicate = true then t
       else State.mark .line { t with line := { t.line with lastReason := some .duplicate } }) := by
  unfold State.ownNumberFrame
  by_cases hd : s.ownCauses.duplicate = true
  · simp only [hd, if_true]
    rw [addOwnCause_of_started (by exact hm), union_ofDuplicate]
    rfl
  · simp only [hd]
    rw [addOwnCause_of_started (by exact hm), union_ofDuplicate]
    rfl

theorem count_inform (f : LineCounters → LineCounters) (s : State) : (s.count f).inform s = s.count f :=
  inform_same rfl rfl rfl

theorem inform_strangerFrame (s : State) : s.strangerFrame.inform s = s.strangerFrame := by
  unfold State.strangerFrame
  dsimp only
  split
  · exact count_inform _ s
  · exact inform_same (by simp [State.lineEvent, State.count]) (by simp [State.lineEvent, State.count])
      (by simp [State.lineEvent, State.count])

/-- Settles O34, by where the number test leads. -/
theorem numberAndChecksTested : Obligations.NumberAndChecksTested := by
  refine ⟨fun c h s hc => ?_, fun h kind e s => ⟨fun hs => ?_, fun ho => ?_, fun ho => ?_⟩⟩
  · obtain ⟨suits, table, blocks, hexec⟩ := exec_received hc s
    rw [hexec]
    refine ⟨fun ho => ?_, fun ho hm hown => ?_, fun ho hown hpeer => ?_⟩
    · exact event_same (received_offline ho ..) rfl rfl rfl
    · rw [event, received_own ho hown, ownNumberFrame_eq hm]
    · rw [event, received_stranger ho hown hpeer, inform_strangerFrame]
      rfl
  · show event _ s = _
    rw [event, received_handedOn hs]
    simp only [suitsAny, noTablePart, if_true, ite_self]
    exact congrArg Host.Outcome.next (inform_unsuited h s)
  · exact congrArg Host.Outcome.next (if_pos ho)
  · refine congrArg Host.Outcome.next ((if_neg ho).trans ?_)
    cases e <;> rfl

/-! ## Holds, reservations and readings of a peer (R66, R67, R90, R91, R33) -/

theorem isEmpty_false_iff (c : Causes) : c.isEmpty = false ↔ c ≠ Causes.none := by
  rw [Bool.eq_false_iff, ne_eq, Causes.isEmpty_iff]

theorem gateOf_named {gate : Byte} (h : NamesGate gate) : gateOf gate = some (gateNamed gate) := by
  unfold gateOf gateNamed
  obtain h | h := h <;> simp [h]

theorem exec_holdSet_taken {h : Header} {p : HoldSetPayload} {s : State} {body : HoldBody} (hs : s.HandedOn h)
    (hm : s.mode ≠ .safe) (hp : holdBodyOf p = some body) :
    exec (.holdSetArrival (.received h p)) s =
      .next (((peerHeard h s).enterHold h.station.toNat body).inform s) := by
  refine (event_received_taken hs rfl hm).trans ?_
  rw [takeHoldSet, hp]

/-- Settles O36. -/
theorem peerHoldsTaken : Obligations.PeerHoldsTaken := by
  refine fun h p kind s hs => ⟨fun hm => ⟨event_received_safe hs rfl hm, event_received_safe hs rfl hm⟩,
    fun hm => ⟨fun causes hc => ?_, ?_, fun gap surface => ?_, fun gate hg => ?_, fun hp => ?_, fun k hk => ?_,
      fun hk => ?_⟩⟩
  · exact exec_holdSet_taken hs hm (if_pos ⟨rfl, (isEmpty_false_iff _).mpr hc⟩)
  · exact exec_holdSet_taken hs hm rfl
  · exact exec_holdSet_taken hs hm rfl
  · exact exec_holdSet_taken hs hm (by rw [holdBodyOf, if_pos ⟨rfl, rfl⟩, gateOf_named hg, Option.map_some])
  · refine (event_received_taken hs rfl hm).trans ?_
    rw [takeHoldSet, hp]
    exact congrArg Host.Outcome.next (inform_heard _ _ s)
  · refine (event_received_taken hs rfl hm).trans ?_
    rw [takeHoldLift, hk]
  · refine (event_received_taken hs rfl hm).trans ?_
    rw [takeHoldLift, hk]
    exact congrArg Host.Outcome.next (inform_heard _ _ s)

theorem suitsTip_of {r : Option Role} (h : r ≠ some .draw) : suitsTip r = true := bne_iff_ne.mpr h

theorem suitsDraw_of {r : Option Role} (h : r ≠ some .tip) : suitsDraw r = true := bne_iff_ne.mpr h

theorem not_suitsTip {r : Option Role} (h : r = some .draw) : suitsTip r = false := by rw [h]; rfl

theorem not_suitsDraw {r : Option Role} (h : r = some .tip) : suitsDraw r = false := by rw [h]; rfl

/-- Settles O37. -/
theorem peerOffersTaken : Obligations.PeerOffersTaken := fun _ _ _ _ hs =>
  ⟨fun hr => event_received_unsuited hs (not_suitsTip hr), fun hm hr => event_received_safe hs (suitsTip_of hr) hm,
    fun hm => event_received_safe hs rfl hm, fun hm hr => event_received_taken hs (suitsTip_of hr) hm,
    fun hm => event_received_taken hs rfl hm⟩

theorem qualityOf_manual {b : Byte} (h : b.toNat = 128) : qualityOf b = some .manual := if_pos h

theorem qualityOf_numeric {b : Byte} (hlow : 1 ≤ b.toNat) (hhigh : b.toNat ≤ 15) :
    qualityOf b = some (.numeric b.toNat) :=
  (if_neg (by omega)).trans (if_pos ⟨hlow, hhigh⟩)

theorem takePeerSurface_ignored {p : SurfacePayload} {n : Nat} {s : State}
    (h : s.mismatched n = true ∨ qualityOf p.quality = none) : s.takePeerSurface p n = s := by
  unfold State.takePeerSurface
  split
  · rfl
  next q hq => exact if_pos (h.resolve_right (by rw [hq]; exact nofun))

theorem takePeerSurface_taken {p : SurfacePayload} {n : Nat} {s : State} {q : Quality}
    (h : s.mismatched n = false) (hq : qualityOf p.quality = some q) :
    s.takePeerSurface p n = s.takeSurface n p.depth.toNat q := by
  rw [State.takePeerSurface, hq]
  exact if_neg (ne_true_of_eq_false h)

/-- Settles O39. -/
theorem peerSurfaceTaken : Obligations.PeerSurfaceTaken := by
  intro h p s hs
  have hheard : (peerHeard h s).mismatched h.station.toNat = s.mismatched h.station.toNat :=
    (heard_record h.station.toNat h.seq.toNat s).2.1
  refine ⟨fun hignored => ?_, fun hm hd hq => ?_, fun hm hd hlow hhigh => ?_⟩
  · by_cases hm : s.mode = .safe
    · exact event_received_safe hs rfl hm
    · refine (event_received_taken hs rfl hm).trans ?_
      rw [takePeerSurface_ignored (by rw [hheard]; exact hignored.resolve_left hm)]
      exact congrArg Host.Outcome.next (inform_heard _ _ s)
  · refine (event_received_taken hs rfl hm).trans ?_
    rw [takePeerSurface_taken (hheard.trans hd) (qualityOf_manual hq)]
  · refine (event_received_taken hs rfl hm).trans ?_
    rw [takePeerSurface_taken (hheard.trans hd) (qualityOf_numeric hlow hhigh)]

/-! ## Counters of a peer (R155 to R157) -/

/-- A counter's increase and the advanced baseline, in the statement's terms. -/
theorem counterTaken_eq (n generation counter : Nat) (s : State) :
    counterTaken n generation counter s =
      ((counterRise (s.baseOf n generation) counter).1, ⟨generation, (counterRise (s.baseOf n generation) counter).2⟩) := by
  unfold counterTaken State.baseOf
  show (match s.baselineOf n with | none => _ | some b => _) = _
  cases s.baselineOf n with
  | none => rfl
  | some b =>
    simp only [Baseline.against, Option.map_some, counterRise]
    split <;> split <;> rfl

theorem advanceBaseline_eq {n generation counter : Nat} {s t : State} (h : t.baselineOf n = s.baselineOf n) :
    t.advanceBaseline n generation counter = withBaseline n (counterTaken n generation counter s).2 t := by
  rw [counterTaken_eq]
  unfold State.advanceBaseline withBaseline State.baseOf
  rw [h]
  rfl

theorem baselineOf_lastDraw (n : Nat) (d : DrawReport) (s : State) :
    (s.updatePeer n (fun r => { r with lastDraw := some d })).baselineOf n = s.baselineOf n := by
  rw [State.baselineOf, peer_updatePeer (f := fun r => { r with lastDraw := some d }) (fun _ => rfl), State.baselineOf]
  cases s.peer n <;> rfl

theorem tippedLayers_eq (n : Nat) (p : TippedPayload) (s : State) :
    tippedLayers n (missingBefore (s.baseOf n p.generation.toNat) p.cumulative.toNat p.volume.toNat) (tippedLoad p) =
      layersOfTipped n p s := by
  unfold State.baseOf layersOfTipped
  show _ = (match s.baselineOf n with | none => _ | some b => _)
  cases s.baselineOf n with
  | none => rfl
  | some b =>
    simp only [Baseline.against, Option.map_some, missingBefore]
    generalize (if b.generation = p.generation.toNat then b.counter else 0) = base
    by_cases hdup : p.cumulative.toNat ≤ base
    · rw [if_neg (by omega), if_pos hdup]
      rfl
    · rw [if_pos (by omega), if_neg hdup]
      split
      · rfl
      · rw [show p.cumulative.toNat - p.volume.toNat - base = 0 by omega]
        rfl

/-- Settles O38. -/
theorem peerTippedAndDrawnTaken : Obligations.PeerTippedAndDrawnTaken := by
  intro h p d s hs
  have hheard : (peerHeard h s).baselineOf h.station.toNat = s.baselineOf h.station.toNat :=
    (heard_record h.station.toNat h.seq.toNat s).2.2
  have hbase (generation : Nat) : (peerHeard h s).baseOf h.station.toNat generation = s.baseOf h.station.toNat generation := by
    rw [State.baseOf, hheard, ← State.baseOf]
  refine ⟨fun hr => event_received_unsuited hs (not_suitsTip hr), fun hr => event_received_unsuited hs (not_suitsDraw hr),
    fun hm hr => event_received_safe hs (suitsTip_of hr) hm, fun hm hr => event_received_safe hs (suitsDraw_of hr) hm,
    fun hm hr => ?_, fun hm hr => ?_⟩
  · refine (event_received_taken hs (suitsTip_of (by rw [hr]; exact nofun)) hm).trans ?_
    rw [State.takeTipped, hbase, tippedLayers_eq, advanceBaseline_eq hheard]
    rfl
  · refine (event_received_taken hs (suitsDraw_of (by rw [hr]; exact nofun)) hm).trans ?_
    rw [State.takeDrawn, hbase, advanceBaseline_eq ((baselineOf_lastDraw _ _ _).trans hheard), counterTaken_eq]

end Sys2Proof.Machine
end

section
/-! Readings at the column and the watch unit (R33, R41 to R47), own arrivals (R131), and how the transmit queue takes and
loses frames (R133 to R136, R138). -/

namespace Sys2Proof.Machine

/-! ## Readings (R33, R41 to R47) -/

theorem volumeBelow_clamped (bands : List Band) (depth : Nat) :
    volumeBelow bands (min depth (chuteDepth bands)) = volumeBelow bands depth := by
  rw [volumeBelow, volumeBelow, Nat.min_assoc, Nat.min_self]

/-- A seed of an UNSEEDED model changes it, so that the wet status is evaluated. -/
theorem seedWith_eq {s : State} (hs : s.column.seeded = false) (segments : List Segment) :
    s.seedWith segments = seedTaken segments s := by
  have hchanged : ¬(segments = s.column.segments ∧ true = s.column.seeded) := fun h => by rw [hs] at h; cases h.2
  rw [State.seedWith, seedTaken, wetEvaluated_eq, modelTold_eq]
  exact congrArg (State.modelEvent .seeded) (if_neg hchanged)

theorem seedSurface_eq {s : State} (hs : s.column.seeded = false) (depth : Nat) : s.seedSurface depth = seededAt depth s := by
  rw [State.seedSurface, seedWith_eq hs, seededAt, volumeBelow_clamped]
  rfl

/-- A reading recorded on what it made of the state, at the time it came. -/
def readingNoted (sender depth : Nat) (q : Quality) (d : Disposition) (time : Nat) (t : State) : State :=
  { t with column := { t.column with lastReading := some ⟨depth, q, sender, time, d⟩ } }

theorem recordReading_eq {s t : State} (h : t.outer = s.outer) (sender depth : Nat) (q : Quality) (d : Disposition) :
    t.recordReading depth q sender d = readingNoted sender depth q d s.time t := by
  rw [State.recordReading, outer_time h]
  rfl

theorem reanchorReading_eq (sender depth : Nat) (q : Quality) (s : State) :
    s.reanchorReading sender depth q = readingNoted sender depth q .reAnchored s.time (reanchoredAt depth s) := by
  rw [State.reanchorReading, recordReading_eq (reanchor_outer depth s), reanchor_eq]

/-- The own HANGUP that stands is lifted whole. -/
theorem liftHangup_eq {s : State} (h : s.HoldsOwn .hangup) : s.liftHangup = hangupLifted s := by
  rw [State.liftHangup, removeHold_eq, if_pos h]
  rfl

theorem takeSurface_manual {s : State} (hs : s.column.seeded = true) (sender depth : Nat) :
    s.takeSurface sender depth .manual = s.reanchorReading sender depth .manual := if_pos hs

theorem takeSurface_numeric {s : State} {d : Decision} (hs : s.column.seeded = true) {sender depth : Nat}
    (h : s.rangingTest sender depth = d) (n : Nat) :
    s.takeSurface sender depth (.numeric n) = s.applyDecision d sender depth (.numeric n) := by
  rw [← h]
  exact if_pos hs

theorem rangingTest_free {s : State} {sender : Nat} (h : s.holdOf sender .hangup = none) (depth : Nat) :
    s.rangingTest sender depth =
      if (s.modelSurface : Int) - depth < s.prof.tHang then .reanchor
      else if (sender == s.own) = true then .holdAndRaise else .hold := by
  rw [State.rangingTest, h]; rfl

theorem rangingTest_held {s : State} {sender : Nat} {e : Hold} (h : s.holdOf sender .hangup = some e) (depth : Nat) :
    s.rangingTest sender depth =
      if (s.modelSurface : Int) - depth < s.prof.tTol then
        (if (sender == s.own && e.body.isRanging) = true then .reanchorAndLift else .reanchor)
      else if (sender == s.own && e.body.isRanging) = true then .holdAndGap else .hold := by
  rw [State.rangingTest, h]; rfl

theorem ranging_own {sender own : Nat} {ranging : Bool} (h : sender = own) (hr : ranging = true) :
    (sender == own && ranging) = true := by
  rw [Bool.and_eq_true, beq_iff_eq]; exact ⟨h, hr⟩

theorem ranging_other {sender own : Nat} {ranging : Bool} (h : sender ≠ own ∨ ranging = false) :
    ¬(sender == own && ranging) = true := by
  rw [Bool.and_eq_true, beq_iff_eq]
  rintro ⟨he, hr⟩
  obtain h | h := h
  · exact h he
  · rw [hr] at h; cases h

theorem hangup_stands {s : State} {e : Hold} (h : s.holdOf s.own .hangup = some e) : s.HoldsOwn .hangup := by
  obtain ⟨hholder, hkind⟩ := (isOf_iff _ _ _).mp (List.find?_some h)
  exact ⟨e, List.mem_of_find?_eq_some h, hholder, hkind⟩

/-- Settles O31, by the model state, the sender's HANGUP and the thresholds. -/
theorem surfaceTaken : Obligations.SurfaceTaken := by
  refine fun sender depth s => ⟨fun q hs => ?_, fun hs => ?_, fun n hs hf hd => ?_, fun n hs hf hd ho => ?_,
    fun n hs hf hd ho => ?_, fun n e hs hf hd ho => ?_, fun n e hs hf hd ho hr => ?_, fun n e hs hf hd ho => ?_,
    fun n e hs hf hd ho hr => ?_⟩
  · refine (if_neg (ne_true_of_eq_false hs)).trans ?_
    rw [recordReading_eq (seedSurface_outer depth s), seedSurface_eq hs]
    rfl
  · exact (takeSurface_manual hs sender depth).trans (reanchorReading_eq ..)
  · rw [takeSurface_numeric hs ((rangingTest_free hf depth).trans (if_pos hd))]
    exact reanchorReading_eq ..
  · exact takeSurface_numeric hs ((rangingTest_free hf depth).trans
      ((if_neg (Int.not_lt.mpr hd)).trans (if_neg fun hk => ho (beq_iff_eq.mp hk)))) n
  · rw [takeSurface_numeric hs ((rangingTest_free hf depth).trans
      ((if_neg (Int.not_lt.mpr hd)).trans (if_pos (beq_iff_eq.mpr ho)))), ho]
    rfl
  · exact takeSurface_numeric hs ((rangingTest_held hf depth).trans
      ((if_neg (Int.not_lt.mpr hd)).trans (if_neg (ranging_other ho)))) n
  · exact takeSurface_numeric hs ((rangingTest_held hf depth).trans
      ((if_neg (Int.not_lt.mpr hd)).trans (if_pos (ranging_own ho hr)))) n
  · rw [takeSurface_numeric hs ((rangingTest_held hf depth).trans ((if_pos hd).trans (if_neg (ranging_other ho))))]
    exact reanchorReading_eq ..
  · rw [takeSurface_numeric hs ((rangingTest_held hf depth).trans ((if_pos hd).trans (if_pos (ranging_own ho hr))))]
    show (s.reanchorReading sender depth (.numeric n)).liftHangup = _
    have hquiet := reanchor_quiet depth hs
    have hstands : (s.reanchorReading sender depth (.numeric n)).HoldsOwn .hangup := by
      obtain ⟨x, hx, hholder, hkind⟩ := hangup_stands (ho ▸ hf)
      refine ⟨x, ?_, hholder.trans hquiet.toSound.own.symm, hkind⟩
      rw [State.reanchorReading, State.recordReading, State.setColumnRecord_holds, hquiet.holds]
      exact hx
    rw [liftHangup_eq hstands, reanchorReading_eq]
    rfl

/-! ## Own arrivals (R131, R137, R139, R143) -/

theorem ownArrival_eq {s : State} {q : QueuedFrame} {k : FrameKind} (hq : s.line.queue.find? (·.onWire) = some q)
    (hk : q.frame.kind = k) (act : Frame → State → State) : s.ownArrival k act = act q.frame (ownArrived s) := by
  rw [State.ownArrival, hq]
  exact if_pos hk

theorem ownArrived_own (s : State) : (ownArrived s).own = s.own := by
  refine outer_own ((settleWaiting_outer _).trans ?_)
  split <;> rfl

/-- Settles O32, kind by kind. -/
theorem ownArrivals : Obligations.OwnArrivals := by
  intro q s hq
  have harrived {k : FrameKind} {act : Frame → State → State} (hk : q.frame.kind = k) :
      event (State.ownArrival k act) s = .next ((act q.frame (ownArrived s)).inform s) := by
    rw [event, ownArrival_eq hq hk]
  refine ⟨fun body hf => ?_, fun kind hf => ?_, fun g c a b d hf => ?_, fun p hf => ?_, fun cls v m hf => ?_,
    fun cause hf => ?_, fun load g c hf => ?_, fun depth x hf => ?_⟩
  · exact harrived (by rw [hf]; rfl)
  · exact harrived (by rw [hf]; rfl)
  · exact harrived (by rw [hf]; rfl)
  · exact harrived (by rw [hf]; rfl)
  · refine (harrived (by rw [hf]; rfl)).trans ?_
    rw [hf, takeOwnOffer, ownArrived_own]
  · refine (harrived (by rw [hf]; rfl)).trans ?_
    rw [takeOwnWithdraw, ownArrived_own]
    rfl
  · refine (harrived (by rw [hf]; rfl)).trans ?_
    rw [hf, takeOwnTipped, ownArrived_own]
    rfl
  · refine (harrived (by rw [hf]; rfl)).trans ?_
    rw [hf, takeOwnSurface, ownArrived_own]

/-! ## How the queue takes a frame (R133 to R135) -/

theorem modifyFirst_append {α : Type} {p : α → Bool} {f : α → α} {before after : List α} {x : α}
    (hb : ∀ y ∈ before, p y = false) (hx : p x = true) :
    modifyFirst p f (before ++ x :: after) = before ++ f x :: after := by
  induction before with
  | nil => exact if_pos hx
  | cons y ys ih =>
    rw [List.forall_mem_cons] at hb
    rw [List.cons_append, modifyFirst, if_neg (ne_true_of_eq_false hb.1), ih hb.2]
    rfl

theorem find?_append_first {α : Type} {p : α → Bool} {before after : List α} {x : α} (hb : ∀ y ∈ before, p y = false)
    (hx : p x = true) : (before ++ x :: after).find? p = some x := by
  rw [List.find?_append, List.find?_eq_none.mpr fun y hy => ne_true_of_eq_false (hb y hy), Option.none_or,
    List.find?_cons_of_pos hx]

theorem findLast_append {α : Type} {p : α → Bool} {before after : List α} {x : α} (ha : ∀ y ∈ after, p y = false)
    (hx : p x = true) : findLast p (before ++ x :: after) = some x := by
  rw [findLast, List.reverse_append, List.reverse_cons, List.append_assoc, List.singleton_append]
  exact find?_append_first (fun y hy => ha y (List.mem_reverse.mp hy)) hx

theorem eraseLast_append {α : Type} {p : α → Bool} {before after : List α} {x : α} (ha : ∀ y ∈ after, p y = false)
    (hx : p x = true) : eraseLast p (before ++ x :: after) = before ++ after := by
  have hnone : ∀ y ∈ after.reverse, ¬p y = true := fun y hy => ne_true_of_eq_false (ha y (List.mem_reverse.mp hy))
  rw [eraseLast, List.reverse_append, List.reverse_cons, List.append_assoc, List.singleton_append,
    List.eraseP_append_right _ hnone, List.eraseP_cons_of_pos hx, List.reverse_append, List.reverse_reverse,
    List.reverse_reverse]

theorem hasKind_iff (k : FrameKind) (q : QueuedFrame) : QueuedFrame.hasKind k q = true ↔ q.frame.kind = k := beq_iff_eq

theorem hasKind_false {k : FrameKind} {q : QueuedFrame} (h : q.frame.kind ≠ k) : QueuedFrame.hasKind k q = false :=
  Bool.eq_false_iff.mpr fun hk => h ((hasKind_iff k q).mp hk)

theorem foldl_max_eq {l : List Nat} {a m : Nat} (ha : a ≤ m) (h : ∀ x ∈ l, x ≤ m) (hm : a = m ∨ m ∈ l) :
    l.foldl max a = m := by
  induction l generalizing a with
  | nil => exact hm.resolve_right List.not_mem_nil
  | cons x xs ih =>
    rw [List.forall_mem_cons] at h
    refine ih (Nat.max_le.mpr ⟨ha, h.1⟩) h.2 ?_
    obtain rfl | hm := hm
    · exact .inl (Nat.max_eq_left h.1)
    · obtain rfl | hm := List.mem_cons.mp hm
      · exact .inl (Nat.max_eq_right ha)
      · exact .inr hm

/-- The worst class of the frames not on the wire is the greatest of their classes. -/
theorem worstClass_eq {queue : List QueuedFrame} {q : QueuedFrame} (hq : q ∈ queue) (hw : q.onWire = false)
    (h : ∀ x ∈ queue, x.onWire = false → x.frame.cls ≤ q.frame.cls) : worstClass queue = q.frame.cls := by
  have hmem (n : Nat) : n ∈ (queue.filter (!·.onWire)).map (·.frame.cls) ↔
      ∃ x ∈ queue, x.onWire = false ∧ x.frame.cls = n := by
    simp only [List.mem_map, List.mem_filter, Bool.not_eq_true', and_assoc]
  refine foldl_max_eq (Nat.zero_le _) (fun n hn => ?_) (.inr ((hmem _).mpr ⟨q, hq, hw, rfl⟩))
  obtain ⟨x, hx, hxw, rfl⟩ := (hmem n).mp hn
  exact h x hx hxw

theorem givesWay_iff (queue : List QueuedFrame) (cls : Nat) (q : QueuedFrame) :
    QueuedFrame.givesWay queue cls q = true ↔ q.onWire = false ∧ q.frame.cls = worstClass queue ∧ cls < q.frame.cls := by
  simp only [QueuedFrame.givesWay, Bool.and_eq_true, Bool.not_eq_true', beq_iff_eq, decide_eq_true_eq, and_assoc]

theorem join_short {l : Line} (h : l.queue.length < 8) (f : Frame) :
    l.join f = ({ l with queue := l.queue ++ [⟨f, 0, false, false⟩] }, none) := if_pos h

theorem join_gives {l : Line} {f : Frame} {before after : List QueuedFrame} {q : QueuedFrame}
    (hlen : 8 ≤ l.queue.length) (hl : l.queue = before ++ q :: after) (hq : QueuedFrame.givesWay l.queue f.cls q = true)
    (ha : ∀ x ∈ after, QueuedFrame.givesWay l.queue f.cls x = false) :
    l.join f = ({ l with
      queue := before ++ after ++ [⟨f, 0, false, false⟩]
      counters := { l.counters with drops := min (l.counters.drops + 1) 65535 } }, some q.frame) := by
  have hfind : findLast (QueuedFrame.givesWay l.queue f.cls) l.queue = some q := by
    rw (occs := .pos [2]) [hl]; exact findLast_append ha hq
  have herase : eraseLast (QueuedFrame.givesWay l.queue f.cls) l.queue = before ++ after := by
    rw (occs := .pos [2]) [hl]; exact eraseLast_append ha hq
  refine (if_neg (Nat.not_lt.mpr hlen)).trans ?_
  rw [hfind, herase]
  rfl

theorem join_dropped {l : Line} {f : Frame} (hlen : 8 ≤ l.queue.length)
    (h : ∀ x ∈ l.queue, QueuedFrame.givesWay l.queue f.cls x = false) :
    l.join f = ({ l with counters := { l.counters with drops := min (l.counters.drops + 1) 65535 } }, some f) := by
  have hfind : findLast (QueuedFrame.givesWay l.queue f.cls) l.queue = none :=
    List.find?_eq_none.mpr fun x hx => ne_true_of_eq_false (h x (List.mem_reverse.mp hx))
  refine (if_neg (Nat.not_lt.mpr hlen)).trans ?_
  rw [hfind]
  rfl

theorem offer_joins {f : Frame} {l : Line} (h : f.kind.coalesces = false ∨ ∀ x ∈ l.queue, x.frame.kind ≠ f.kind) :
    l.offer f = l.join f := by
  have hnone : (if f.kind.coalesces = true then l.queue.find? (QueuedFrame.hasKind f.kind) else none) = none := by
    obtain h | h := h
    · exact if_neg (ne_true_of_eq_false h)
    · rw [List.find?_eq_none.mpr fun x hx => ne_true_of_eq_false (hasKind_false (h x hx)), ite_self]
  rw [Line.offer, hnone]

theorem offer_coalesces {f : Frame} {l : Line} {before after : List QueuedFrame} {q : QueuedFrame}
    (hc : f.kind.coalesces = true) (hl : l.queue = before ++ q :: after) (hq : q.frame.kind = f.kind)
    (hb : ∀ x ∈ before, x.frame.kind ≠ f.kind) :
    l.offer f =
      if q.onWire = true then ({ l with waiting := l.waiting.filter (fun x => x.kind != f.kind) ++ [f] }, none)
      else ({ l with queue := before ++ { q with frame := f, started := false } :: after }, none) := by
  have hbefore : ∀ x ∈ before, QueuedFrame.hasKind f.kind x = false := fun x hx => hasKind_false (hb x hx)
  have hfind : l.queue.find? (QueuedFrame.hasKind f.kind) = some q := by
    rw [hl]; exact find?_append_first hbefore ((hasKind_iff _ _).mpr hq)
  rw [Line.offer, if_pos hc, hfind]
  dsimp only
  rw [hl, modifyFirst_append hbefore ((hasKind_iff _ _).mpr hq)]
  rfl

/-- Settles O41: a kind that coalesces takes the place of its own; any other joins, or the queue gives way. -/
theorem queueTakesFrame : Obligations.QueueTakesFrame := by
  refine fun f l => ⟨fun before q after hc hl hq hb => ⟨fun hw => ?_, fun hw => ?_⟩,
    fun hj => ⟨fun hlen => ?_, fun before q after hlen hl hw hlt hworst ha => ?_, fun hlen h => ?_⟩⟩
  · rw [offer_coalesces hc hl hq hb, if_neg (ne_true_of_eq_false hw)]
  · rw [offer_coalesces hc hl hq hb, if_pos hw]
  · rw [offer_joins hj, join_short hlen]
  · have hclass : worstClass l.queue = q.frame.cls := worstClass_eq (by rw [hl]; simp) hw hworst
    rw [offer_joins hj]
    refine join_gives hlen hl ((givesWay_iff _ _ _).mpr ⟨hw, hclass.symm, hlt⟩) fun x hx => Bool.eq_false_iff.mpr ?_
    rw [ne_eq, givesWay_iff, hclass]
    rintro ⟨hxw, hxc, -⟩
    obtain hk | hk := ha x hx
    · rw [hxw] at hk; cases hk
    · omega
  · rw [offer_joins hj]
    refine join_dropped hlen fun x hx => Bool.eq_false_iff.mpr ?_
    rw [ne_eq, givesWay_iff]
    rintro ⟨hxw, -, hxc⟩
    obtain hk | hk := h x hx
    · rw [hxw] at hk; cases hk
    · omega

/-! ## What the loss of a frame means (R136, R138, R140) -/

theorem enqueue_eq (f : Frame) (s : State) :
    s.enqueue f = match (s.line.offer f).2 with
      | none => { s with line := (s.line.offer f).1 }
      | some lost => State.frameLost lost { s with line := (s.line.offer f).1 } := by
  unfold State.enqueue
  rcases s.line.offer f with ⟨l, _ | lost⟩ <;> rfl

theorem handOver_taken {s : State} {f : Frame}
    (h : s.line.state = .active ∨ (s.line.state = .isolated ∧ f.kind = .state)) : s.handOver f = s.enqueue f := by
  obtain h | ⟨h, hk⟩ := h
  · rw [State.handOver, h]
  · rw [State.handOver, h]; exact if_pos hk

theorem frameLost_offer_stands {s : State} (h : ∀ load, s.tip.stage ≠ .requested load) (cls v : Nat) (m : Moisture) :
    s.frameLost (.offer cls v m) = s := by
  unfold State.frameLost
  dsimp only
  split
  next load hs => exact absurd hs (h load)
  all_goals rfl

/-- Settles O42, by the kind of the frame, then by the line state. -/
theorem framesLost : Obligations.FramesLost := by
  refine fun s => ⟨fun cls v m load h => ?_, fun cls v m h => frameLost_offer_stands h cls v m, fun _ => rfl,
    fun _ _ _ => rfl, fun _ => rfl, fun _ => rfl, fun _ _ _ _ _ => rfl, fun _ _ => rfl, fun _ => rfl,
    fun f h => ?_, fun f h hk _ => ?_, fun depth q h => if_pos h, fun depth q h => if_neg h, fun f h => ?_⟩
  · rw [State.frameLost, h]
    rfl
  · rw [State.handOver, h]
  · rw [State.handOver, h]
    exact if_neg hk
  · exact (handOver_taken h).trans (enqueue_eq f s)

end Sys2Proof.Machine
end

section
/-! Transmit attempts: how one begins, what an own STATE carries, and how one fails (R69, R128 to R139, R143, R154). -/

namespace Sys2Proof.Machine

/-! ## The frame that goes next (R133, R139) -/

theorem foldl_min_eq {l : List Nat} {a m : Nat} (ha : m ≤ a) (h : ∀ x ∈ l, m ≤ x) (hm : a = m ∨ m ∈ l) :
    l.foldl min a = m := by
  induction l generalizing a with
  | nil => exact hm.resolve_right List.not_mem_nil
  | cons x xs ih =>
    rw [List.forall_mem_cons] at h
    refine ih (Nat.le_min.mpr ⟨ha, h.1⟩) h.2 ?_
    obtain rfl | hm := hm
    · exact .inl (Nat.min_eq_left h.1)
    · obtain rfl | hm := List.mem_cons.mp hm
      · exact .inl (Nat.min_eq_right ha)
      · exact .inr hm

theorem cls_le (f : Frame) : f.cls ≤ 3 := by
  rw [Frame.cls]
  cases f.kind <;> decide

theorem bestClass_eq {queue : List QueuedFrame} {q : QueuedFrame} (hq : q ∈ queue)
    (h : ∀ x ∈ queue, q.frame.cls ≤ x.frame.cls) : bestClass queue = q.frame.cls := by
  refine foldl_min_eq (cls_le _) (fun n hn => ?_) (.inr (List.mem_map_of_mem hq))
  obtain ⟨x, hx, rfl⟩ := List.mem_map.mp hn
  exact h x hx

theorem not_sending {l : Line} (h : ∀ x ∈ l.queue, x.onWire = false) : ¬l.sending = true := by
  simp only [Line.sending, List.any_eq_true, not_exists, not_and]
  exact fun x hx => ne_true_of_eq_false (h x hx)

/-- Before the frame that goes next no frame would be sent; it would. -/
abbrev PicksAt (l : Line) (before : List QueuedFrame) (q : QueuedFrame) (after : List QueuedFrame) : Prop :=
  ¬l.sending = true ∧ l.queue = before ++ q :: after ∧ (∀ x ∈ before, l.sendable x = false) ∧ l.sendable q = true

section
variable {before after : List QueuedFrame} {q : QueuedFrame} {s : State}

theorem nextToSend_picks (h : s.NextToSend before q after) : PicksAt s.line before q after := by
  obtain ⟨ha, hl, hall, hb⟩ := h
  have hbest : bestClass s.line.queue = q.frame.cls := bestClass_eq (by rw [hl]; simp) fun x hx => (hall x hx).2
  refine ⟨not_sending fun x hx => (hall x hx).1, hl, fun x hx => ?_, ?_⟩
  · rw [Line.sendable, ha]
    exact beq_eq_false_iff_ne.mpr fun hk => absurd (hb x hx) (by rw [hk, hbest]; exact Nat.lt_irrefl _)
  · rw [Line.sendable, ha]
    exact beq_iff_eq.mpr hbest.symm

theorem retryToSend_picks (h : s.RetryToSend before q after) : PicksAt s.line before q after := by
  obtain ⟨hi, hdue, hl, hall, hk, hb⟩ := h
  refine ⟨not_sending hall, hl, fun x hx => ?_, ?_⟩
  · rw [Line.sendable, hi, hdue]
    exact beq_eq_false_iff_ne.mpr (hb x hx)
  · rw [Line.sendable, hi, hdue]
    exact beq_iff_eq.mpr hk

theorem find?_sendable (h : PicksAt s.line before q after) : s.line.queue.find? s.line.sendable = some q := by
  obtain ⟨-, hl, hb, hq⟩ := h
  rw [hl]
  exact find?_append_first hb hq

end

/-- An isolated line with no attempt due, or no STATE, sends nothing. -/
theorem find?_sendable_isolated {l : Line}
    (h : l.state = .isolated ∧ (l.retryDue = false ∨ ∀ q ∈ l.queue, q.frame.kind ≠ .state)) :
    l.queue.find? l.sendable = none := by
  obtain ⟨hi, h⟩ := h
  refine List.find?_eq_none.mpr fun x hx => ?_
  rw [Line.sendable, hi, Bool.and_eq_true, beq_iff_eq]
  rintro ⟨hdue, hk⟩
  obtain h | h := h
  · rw [hdue] at h; cases h
  · exact h x hx hk

theorem find?_sendable_offline {l : Line} (h : l.state = .offline) : l.queue.find? l.sendable = none := by
  refine List.find?_eq_none.mpr fun x _ => ?_
  rw [Line.sendable, h]
  exact nofun

/-! ## The start of an attempt, and arbitration (R128, R129, R133, R143) -/

theorem attemptFrame_eq (f : Frame) (s : State) : s.attemptFrame f = frameFormed f s := by cases f <;> rfl

theorem startAttempt_begins {before after : List QueuedFrame} {q : QueuedFrame} {s : State}
    (h : PicksAt s.line before q after) : s.startAttempt = attemptBegun before q after s := by
  have hfind := find?_sendable h
  obtain ⟨hsend, hl, hb, hq⟩ := h
  rw [State.startAttempt, if_neg hsend, hfind]
  dsimp only
  have hqueue : modifyFirst s.line.sendable
      (fun x => { x with frame := s.attemptFrame x.frame, started := true, onWire := true }) s.line.queue =
      before ++ { q with frame := frameFormed q.frame s, started := true, onWire := true } :: after := by
    rw [← attemptFrame_eq]
    exact (congrArg (modifyFirst s.line.sendable _) hl).trans (modifyFirst_append hb hq)
  rw [State.beginAttempt, hqueue, attemptFrame_eq]
  rfl

theorem startAttempt_idle {s : State} (h : s.line.sending = true ∨ s.line.queue.find? s.line.sendable = none) :
    s.startAttempt = s := by
  unfold State.startAttempt
  split
  · rfl
  next hsend => rw [h.resolve_left hsend]

/-! ## What an own STATE carries (R69, R92, R154) -/

theorem haltListed_causesCode (c : Causes) (p : StatePayload) (h : p.haltCauses = BitVec.ofNat 8 (causesCode c)) :
    haltListed p = if c = Causes.none then none else some (.halt c) := by
  obtain ⟨operator, restart, stopLoop, gateFault, duplicate⟩ := c
  unfold haltListed
  rw [h]
  clear h
  revert operator restart stopLoop gateFault duplicate
  decide

theorem causesCode_lt (c : Causes) : (BitVec.ofNat 8 (causesCode c)).toNat < 32 := by
  obtain ⟨operator, restart, stopLoop, gateFault, duplicate⟩ := c
  revert operator restart stopLoop gateFault duplicate
  decide

theorem holdOf_find (holder : Nat) (kind : HoldKind) (s : State) :
    s.holds.find? (fun h => h.holder == holder && h.body.kind == kind) = s.holdOf holder kind := rfl

theorem body_of_kind_halt {b : HoldBody} (h : b.kind = .halt) : ∃ c, b = .halt c := by
  cases b with
  | halt c => exact ⟨c, rfl⟩
  | entry | ranging _ _ | starved _ => cases h

/-- The own HALT listed by the own STATE is the entry that stands. -/
theorem haltListed_own {s : State} (hk : s.HoldsKept) :
    haltListed s.statePayload = (s.holdOf s.own .halt).map Hold.body := by
  rw [haltListed_causesCode s.ownCauses _ rfl]
  cases hf : s.holdOf s.own .halt with
  | none =>
    rw [State.ownCauses, hf]
    rfl
  | some e =>
    obtain ⟨c, hc⟩ := body_of_kind_halt ((isOf_iff _ _ _).mp (List.find?_some hf)).2
    have hne : c ≠ Causes.none := by
      have hcause := hk.2 e (List.mem_of_find?_eq_some hf)
      rw [hc, HoldBody.hasCause, Bool.not_eq_true', isEmpty_false_iff] at hcause
      exact hcause
    rw [ownCauses_of_entry hf hc, if_neg hne, Option.map_some, hc]

theorem hangupListed_starved {p : StatePayload} {g : Gate} (hs : p.hangupSource = 2#2)
    (hg : p.hangupGateB = decide (g = .b)) (hv : p.gapVolume = 0#32) (hd : p.gapSurface = 0#16) :
    hangupListed p = some (.starved g) := by
  unfold hangupListed
  rw [hs, hg, hv, hd]
  cases g <;> rfl

theorem hangupListed_ranging {p : StatePayload} {gap : Int} {surface : Nat} (hs : p.hangupSource = 1#2)
    (hg : p.hangupGateB = false) (hv : p.gapVolume = BitVec.ofInt 32 gap) (hd : p.gapSurface = BitVec.ofNat 16 surface)
    (hlow : -2147483648 ≤ gap) (hhigh : gap < 2147483648) (hsurface : surface < 65536) :
    hangupListed p = some (.ranging gap surface) := by
  have hgap : (BitVec.ofInt 32 gap).toInt = gap := by
    rw [BitVec.toInt_ofInt]
    exact Int.bmod_eq_of_le (by omega) (by omega)
  have hdepth : (BitVec.ofNat 16 surface).toNat = surface := by
    rw [BitVec.toNat_ofNat]
    exact Nat.mod_eq_of_lt hsurface
  unfold hangupListed
  rw [hs, hg, hv, hd, hgap, hdepth]
  rfl

/-- The own HANGUP in the own STATE, by what stands. -/
theorem statePayload_hangup (s : State) :
    (∀ g, (s.holdOf s.own .hangup).map Hold.body = some (.starved g) →
      hangupListed s.statePayload = some (.starved g)) ∧
    (∀ gap surface, (s.holdOf s.own .hangup).map Hold.body = some (.ranging gap surface) →
      -2147483648 ≤ gap → gap < 2147483648 → surface < 65536 →
      hangupListed s.statePayload = some (.ranging gap surface)) ∧
    (¬s.HoldsOwn .hangup → s.statePayload.hangupSource = 0#2 ∧ s.statePayload.gapVolume = 0#32 ∧
      s.statePayload.gapSurface = 0#16 ∧ s.statePayload.hangupGateB = false) := by
  refine ⟨fun g h => ?_, fun gap surface h hlow hhigh hsurface => ?_, fun h => ?_⟩
  · refine hangupListed_starved ?_ ?_ ?_ ?_ <;> unfold State.statePayload <;> dsimp only <;> rw [h]
    cases g <;> rfl
  · refine hangupListed_ranging ?_ ?_ ?_ ?_ hlow hhigh hsurface <;> unfold State.statePayload <;> dsimp only <;> rw [h]
  · have hnone : s.holdOf s.own .hangup = none := by
      rw [holdOf_none_iff]
      exact fun x hx hk => h ⟨x, hx, hk.1, hk.2⟩
    unfold State.statePayload
    dsimp only
    rw [hnone]
    exact ⟨rfl, rfl, rfl, rfl⟩

/-- The open reservation in the own STATE. -/
theorem statePayload_reservation (s : State) :
    (s.mode = .safe ∨ (∀ r ∈ s.reservations, r.station ≠ s.own) →
      s.statePayload.openClass = 0#8 ∧ s.statePayload.openVolume = 0#32) ∧
    (∀ r, s.mode ≠ .safe → s.reservations.find? (fun r => r.station == s.own) = some r →
      s.statePayload.openClass = BitVec.ofNat 8 r.cls ∧ s.statePayload.openVolume = BitVec.ofNat 32 r.volume) := by
  refine ⟨fun h => ?_, fun r hm hr => ?_⟩
  · have hnone : (if (s.mode == .safe) = true then none else reservationOf s.own s.reservations) = none := by
      obtain h | h := h
      · exact if_pos (beq_iff_eq.mpr h)
      · rw [reservationOf, List.find?_eq_none.mpr fun r hr => by rw [beq_iff_eq]; exact h r hr, ite_self]
    unfold State.statePayload
    dsimp only
    rw [hnone]
    exact ⟨rfl, rfl⟩
  · have hsome : (if (s.mode == .safe) = true then none else reservationOf s.own s.reservations) = some r :=
      (if_neg fun hk => hm (beq_iff_eq.mp hk)).trans hr
    unfold State.statePayload
    dsimp only
    rw [hsome]
    exact ⟨rfl, rfl⟩

/-- The nibble of a breaker state, and of a gate state, as the statement writes them. -/
theorem breakerCode_eq (b : BreakerState) :
    BitVec.ofNat 4 (breakerCode b) =
      match b with | .parked => 1#4 | .working _ => 2#4 | .returning => 3#4 | .fault _ => 4#4 := by
  cases b <;> rfl

theorem gateStateCode_eq (q : GateState) :
    BitVec.ofNat 4 (gateStateCode q) =
      match q with
      | .closed => 1#4 | .warning => 2#4 | .opening => 3#4 | .opened => 4#4 | .closing => 5#4 | .fault _ => 6#4 := by
  cases q <;> rfl

theorem tipCode_eq (t : TipStage) :
    BitVec.ofNat 4 (tipCode t) =
      match t with
      | .idle => 1#4 | .requested _ => 2#4 | .offered _ => 3#4 | .tipping _ => 4#4 | .settling _ => 5#4 := by
  cases t <;> rfl

/-- The sequencers' nibbles in the own STATE. -/
theorem statePayload_units (s : State) :
    s.statePayload.unitHigh = (match s.straps.role with
      | .tip => if s.mode = .safe then 0#4 else BitVec.ofNat 4 (tipCode s.tip.stage)
      | .draw => if s.mode = .safe ∧ Config.safeStateShowsUnits = false then 0#4
          else BitVec.ofNat 4 (gateStateCode s.gates.a.state)) ∧
    s.statePayload.unitLow = if s.mode = .safe ∧ Config.safeStateShowsUnits = false then 0#4
      else BitVec.ofNat 4 (match s.straps.role with
        | .tip => breakerCode s.breaker.state
        | .draw => gateStateCode s.gates.b.state) := by
  have hhidden : (s.mode == .safe && !Config.safeStateShowsUnits) = true ↔
      s.mode = .safe ∧ Config.safeStateShowsUnits = false := by
    rw [Bool.and_eq_true, Bool.not_eq_true', beq_iff_eq]
  unfold State.statePayload
  cases s.straps.role with
  | tip => exact ⟨ite_of_iff beq_iff_eq rfl rfl, ite_of_iff hhidden rfl rfl⟩
  | draw => exact ⟨ite_of_iff hhidden rfl rfl, ite_of_iff hhidden rfl rfl⟩

theorem units_tip {s : State} (hr : s.straps.role = .tip) :
    let boom : BitVec 4 := match s.breaker.state with
      | .parked => 1#4 | .working _ => 2#4 | .returning => 3#4 | .fault _ => 4#4
    (s.mode ≠ .safe → s.statePayload.unitLow = boom ∧
      s.statePayload.unitHigh = (match s.tip.stage with
        | .idle => 1#4 | .requested _ => 2#4 | .offered _ => 3#4 | .tipping _ => 4#4 | .settling _ => 5#4)) ∧
    (s.mode = .safe → s.statePayload.unitHigh = 0#4 ∧
      s.statePayload.unitLow = if Config.safeStateShowsUnits then boom else 0#4) := by
  obtain ⟨hhigh, hlow⟩ := statePayload_units s
  rw [hr] at hhigh hlow
  dsimp only at hhigh hlow
  refine ⟨fun hm => ?_, fun hm => ?_⟩
  · rw [hhigh, hlow, if_neg hm, if_neg fun hk => hm hk.1]
    exact ⟨breakerCode_eq _, tipCode_eq _⟩
  · rw [hhigh, hlow, if_pos hm]
    refine ⟨rfl, ?_⟩
    by_cases hshow : Config.safeStateShowsUnits = true
    · rw [if_pos hshow, if_neg fun hk => by rw [hshow] at hk; cases hk.2]
      exact breakerCode_eq _
    · rw [if_neg hshow, if_pos ⟨hm, Bool.eq_false_iff.mpr hshow⟩]

theorem units_draw {s : State} (hr : s.straps.role = .draw) :
    let nibble (q : GateSeq) : BitVec 4 := match q.state with
      | .closed => 1#4 | .warning => 2#4 | .opening => 3#4 | .opened => 4#4 | .closing => 5#4 | .fault _ => 6#4
    if s.mode = .safe ∧ Config.safeStateShowsUnits = false then
      s.statePayload.unitHigh = 0#4 ∧ s.statePayload.unitLow = 0#4
    else s.statePayload.unitHigh = nibble s.gates.a ∧ s.statePayload.unitLow = nibble s.gates.b := by
  obtain ⟨hhigh, hlow⟩ := statePayload_units s
  rw [hr] at hhigh hlow
  dsimp only at hhigh hlow ⊢
  split
  next h => rw [hhigh, hlow, if_pos h, if_pos h]; exact ⟨rfl, rfl⟩
  next h => rw [hhigh, hlow, if_neg h, if_neg h]; exact ⟨gateStateCode_eq _, gateStateCode_eq _⟩

theorem digest_eq (s : State) : s.prof.digest = (s.profile.map Profile.digest).getD 0 := by
  unfold State.prof
  cases s.profile <;> rfl

/-- Every field of the own STATE. -/
theorem statePayload_carries {s : State} (hk : s.HoldsKept) : s.OwnStateCarries s.statePayload := by
  obtain ⟨hstarved, hranging, hnone⟩ := statePayload_hangup s
  obtain ⟨hclosed, hopen⟩ := statePayload_reservation s
  have hcounter : s.statePayload.counter =
      BitVec.ofNat 32 (if s.straps.role = .tip then s.tip.cumulative else s.drawn.cumulative) := by
    unfold State.statePayload
    cases s.straps.role <;> rfl
  have hmode {m : Mode} (h : s.mode = m) : s.statePayload.mode = BitVec.ofNat 4 (modeCode m) := by rw [← h]; rfl
  have hline {l : LineState} (h : s.line.state = l) : s.statePayload.line = BitVec.ofNat 4 (lineCode l) := by
    rw [← h]; rfl
  exact ⟨hmode, hmode, hmode, hline, hline, haltListed_own hk, causesCode_lt _, holdOf_iff .entry s, hstarved, hranging,
    hnone, hclosed, hopen, units_tip, units_draw, rfl, rfl, rfl, rfl, rfl, hcounter, Option.isSome_iff_ne_none,
    congrArg (BitVec.ofNat 16) (digest_eq s)⟩

/-! ## The statement of an attempt's start -/

theorem loseArbitration_eq {s : State} (h : s.line.sending = true) :
    s.loseArbitration = State.settleWaiting { s with line := { s.line with
      queue := s.line.queue.map (fun x => { x with onWire := false }), wire := none,
      counters := { s.line.counters with
        arbitrationLosses := min (s.line.counters.arbitrationLosses + 1) 65535 } } } := if_pos h

/-- Settles O43. -/
theorem attemptBeginsAndYields : Obligations.AttemptBeginsAndYields := by
  refine ⟨fun before after q s h => ?_, fun s hk => statePayload_carries hk, fun s h => ?_, fun s h => ?_⟩
  · exact congrArg Host.Outcome.next (startAttempt_begins (h.elim nextToSend_picks retryToSend_picks))
  · refine congrArg Host.Outcome.next (startAttempt_idle ?_)
    obtain h | h | h | h := h
    · exact .inl h
    · exact .inr (by rw [h]; rfl)
    · exact .inr (find?_sendable_offline h)
    · exact .inr (find?_sendable_isolated h)
  · exact congrArg (fun t => Host.Outcome.next (State.inform t s)) (loseArbitration_eq h)

/-! ## An attempt that fails (R128, R130, R137, R139) -/

theorem failAttempt_isolated {p : QueuedFrame → Bool} {q : QueuedFrame} {s : State}
    (hq : s.line.queue.find? p = some q) (hi : s.line.state = .isolated) : s.failAttempt p = retryFailed s := by
  rw [State.failAttempt, hq]
  exact if_pos hi

theorem failAttempt_eq {p : QueuedFrame → Bool} {q : QueuedFrame} {s : State}
    (hq : s.line.queue.find? p = some q) (hi : s.line.state ≠ .isolated) : s.failAttempt p = attemptFailed p q s := by
  rw [State.failAttempt, hq]
  refine (if_neg hi).trans ?_
  by_cases hlast : q.attempts + 1 < 16
  · exact (if_neg (by simp only [Config.maxAttempts]; omega)).trans (if_pos hlast).symm
  · exact (if_pos (by simp only [Config.maxAttempts]; omega)).trans (if_neg hlast).symm

theorem waitRunsOut_idle {s : State} (h : s.line.sending = true ∨ s.line.queue.find? s.line.sendable = none) :
    s.waitRunsOut = s := by
  unfold State.waitRunsOut
  split
  · rfl
  next hsend => rw [State.failAttempt, h.resolve_left hsend]

theorem waitRunsOut_fails {s : State} {before after : List QueuedFrame} {q : QueuedFrame}
    (h : PicksAt s.line before q after) : s.waitRunsOut = s.failAttempt s.line.sendable := if_neg h.1

/-! ## Waiting replacements (R134) -/

theorem settleWaiting_none {s : State} (h : s.line.waiting = []) : s.settleWaiting = s := by
  have hline : ({ s.line with waiting := [] } : Line) = s.line := by rw [← h]
  rw [State.settleWaiting, h, hline]
  rfl

theorem settleWaiting_one {s : State} {f : Frame} (ha : s.line.state = .active) (h : s.line.waiting = [f]) :
    s.settleWaiting = State.enqueue f { s with line := { s.line with waiting := [] } } := by
  rw [State.settleWaiting, h]
  exact handOver_taken (.inl ha)

theorem enqueue_of_offer {s : State} {f : Frame} {l : Line} (h : s.line.offer f = (l, none)) :
    s.enqueue f = { s with line := l } := by
  rw [State.enqueue, h]
  rfl

/-- Settles O44, by what failed, then by what waits. -/
theorem attemptFails : Obligations.AttemptFails := by
  refine ⟨fun q s hq => ?_, fun before after q s h => ?_, fun before after q s h => ?_, fun s h => ?_,
    fun s hi hr => ?_, fun s => ⟨settleWaiting_none, fun f before q after ha hw hc hl hk ho hb => ?_,
      fun f ha hw hk hlen => ?_⟩⟩
  · refine congrArg (fun t => Host.Outcome.next (State.inform t s)) ?_
    by_cases hi : s.line.state = .isolated
    · rw [if_pos hi]; exact failAttempt_isolated hq hi
    · rw [if_neg hi]; exact failAttempt_eq hq hi
  · have hpick := nextToSend_picks h
    refine congrArg (fun t => Host.Outcome.next (State.inform t s)) ((waitRunsOut_fails hpick).trans ?_)
    exact failAttempt_eq (find?_sendable hpick) (by rw [h.1]; exact nofun)
  · have hpick := retryToSend_picks h
    refine congrArg (fun t => Host.Outcome.next (State.inform t s)) ((waitRunsOut_fails hpick).trans ?_)
    exact failAttempt_isolated (find?_sendable hpick) h.1
  · refine event_same (waitRunsOut_idle ?_) rfl rfl rfl
    obtain h | h | h := h
    · exact .inl h
    · exact .inr (by rw [h]; rfl)
    · exact .inr (find?_sendable_isolated h)
  · exact congrArg Host.Outcome.next (if_pos ⟨hi, hr⟩)
  · rw [settleWaiting_one ha hw, enqueue_of_offer
      ((offer_coalesces (l := { s.line with waiting := [] }) hc hl hk hb).trans (if_neg (ne_true_of_eq_false ho)))]
  · rw [settleWaiting_one ha hw, enqueue_of_offer
      ((offer_joins (l := { s.line with waiting := [] }) (.inr hk)).trans
        (join_short (l := { s.line with waiting := [] }) hlen f))]

end Sys2Proof.Machine
end

section
/-! The entry into ISOLATED (R138, R85): what the removed frames do leaves the line as the entry set it. -/

namespace Sys2Proof.Machine

/-- What an operation on an isolated line leaves: the line, no tip newly REQUESTED or OFFERED, no event kind cleared. -/
structure Secluded (s t : State) : Prop where
  line    : s.line.state = .isolated → t.line = s.line
  tip     : t.TipOpen → s.TipOpen
  pending : ∀ k, s.isPending k = true → t.isPending k = true

theorem Secluded.refl (s : State) : Secluded s s := ⟨fun _ => rfl, id, fun _ => id⟩

theorem Secluded.trans {s t u : State} (h : Secluded s t) (k : Secluded t u) : Secluded s u := by
  refine ⟨fun hi => ?_, h.tip ∘ k.tip, fun x => k.pending x ∘ h.pending x⟩
  have hline := h.line hi
  exact (k.line (by rw [hline]; exact hi)).trans hline

theorem Secluded.foldl {α : Type} {f : State → α → State} (h : ∀ s x, Secluded s (f s x)) (l : List α) (s : State) :
    Secluded s (l.foldl f s) := by
  induction l generalizing s with
  | nil => exact .refl s
  | cons x xs ih => exact (h s x).trans (ih _)

theorem Secluded.of_eq {s t : State} (hl : t.line = s.line) (ht : t.tip.stage = s.tip.stage)
    (hp : ∀ k, s.isPending k = true → t.isPending k = true) : Secluded s t :=
  ⟨fun _ => hl, fun h => by rw [State.TipOpen, ht] at h; exact h, hp⟩

theorem mark_secluded (k : EventKind) (s : State) : Secluded s (s.mark k) :=
  .of_eq rfl rfl (mark_beside k s).pending

theorem setWatch_secluded (w : Watch) (s : State) : Secluded s (s.setWatch w) := .of_eq rfl rfl fun _ => id

theorem updateGate_secluded (g : Gate) (f : GateSeq → GateSeq) (s : State) : Secluded s (s.updateGate g f) :=
  .of_eq rfl rfl fun _ => id

theorem setHolds_secluded (l : List Hold) (s : State) : Secluded s (s.setHolds l) := .of_eq rfl rfl fun _ => id

theorem setColumnRecord_secluded (c : Column) (s : State) : Secluded s (s.setColumnRecord c) :=
  .of_eq rfl rfl fun _ => id

theorem gatesAndWatch_secluded (gates : PerGate GateSeq) (w : Watch) (s : State) :
    Secluded s { s with gates := gates, watch := w } := .of_eq rfl rfl fun _ => id

theorem setColumn_secluded (c : Column) (s : State) : Secluded s (s.setColumn c) :=
  .of_eq (setColumn_line c s) (congrArg Tip.stage (setColumn_tip c s)) (setColumn_beside c s).pending

theorem modelEvent_secluded (r : ModelReason) (s : State) : Secluded s (s.modelEvent r) :=
  .of_eq rfl rfl (modelEvent_beside r s).pending

/-! ## Frames on an isolated line -/

theorem frameLost_secluded (f : Frame) (s : State) : Secluded s (s.frameLost f) :=
  ⟨fun _ => frameLost_line f s, (frameLost_quiet f s).tip, (frameLost_beside f s).pending⟩

theorem handOver_secluded {f : Frame} (hf : f.kind ≠ .state) (s : State) : Secluded s (s.handOver f) := by
  refine ⟨fun hi => ?_, (handOver_calm f s).tip, (handOver_beside f s).pending⟩
  rw [State.handOver, hi]
  dsimp only
  rw [if_neg hf, frameLost_line]

theorem withdrawTip_secluded (cause : WithdrawCause) (s : State) : Secluded s (s.withdrawTip cause) := by
  refine ⟨fun hi => ?_, fun h => absurd h (withdrawTip_closed cause s), fun k hk => ?_⟩
  · cases hs : s.tip.stage with
    | requested load => rw [withdrawTip_isolated (.inl hs) hi]; rfl
    | offered load => rw [withdrawTip_isolated (.inr hs) hi]; rfl
    | idle | tipping _ | settling _ => rw [withdrawTip_not_open (by rw [hs]; rfl)]
  · have hover (load : Load) := (tipEnd_beside (.withdrawn cause) load s).pending k hk
    unfold State.withdrawTip
    split
    next load _ =>
      dsimp only
      split
      · exact hover load
      · unfold State.revokeOffer
        split
        · exact hover load
        · exact (handOver_beside _ _).pending k (hover load)
    next load _ =>
      dsimp only
      split
      · exact hover load
      · exact (handOver_beside _ _).pending k (hover load)
    all_goals exact hk

/-! ## The effects of a hold on an isolated line -/

theorem breakerTo_secluded (b : BreakerState) (s : State) : Secluded s (breakerTo b s) :=
  Secluded.trans (t := s.setBreaker { s.breaker with state := b, renewal := ⟨false, 0⟩, returning := ⟨false, 0⟩ })
    (.of_eq rfl rfl fun _ => id) (mark_secluded _ _)

theorem breakerHome_secluded (s : State) : Secluded s (breakerHome s) := by
  refine (breakerTo_secluded .parked s).trans ?_
  unfold breakerHome
  dsimp only
  split
  · exact .of_eq rfl rfl fun _ => id
  all_goals exact .refl _

theorem workHeld_secluded (s : State) : Secluded s (workHeld s) := by
  unfold workHeld
  split
  · exact .refl s
  · refine Secluded.trans (t := s.recordWorkEnd .hold) (.of_eq rfl rfl fun _ => id) ?_
    unfold workOver
    dsimp only
    split
    · exact breakerHome_secluded _
    · exact (breakerTo_secluded .returning _).trans (.of_eq rfl rfl fun _ => id)

theorem drawnReported_secluded (s : State) : Secluded s (drawnReported s) := by
  unfold drawnReported
  split
  · exact Secluded.trans (t := s.setDrawn ⟨s.drawn.cumulative, s.drawn.cumulative, false⟩) (.of_eq rfl rfl fun _ => id)
      (handOver_secluded (f := .drawn _ _ _ _ _) (by exact nofun) _)
  · exact .refl s

theorem drawCompleted_secluded (wet : Bool) (s : State) : Secluded s (drawCompleted wet s) := by
  have hrest : Secluded s (State.mark .drawEnd
      (if wet = true then { s with watch := { s.watch with wetRest := ⟨true, s.prof.wetRest * 1000⟩ } } else s)) := by
    refine Secluded.trans ?_ (mark_secluded .drawEnd _)
    split
    · exact setWatch_secluded _ s
    · exact .refl s
  exact hrest.trans (drawnReported_secluded _)

theorem endDraw_secluded (cause : EndCause) (g : Gate) (s : State) : Secluded s (s.endDraw cause g) := by
  by_cases h : (s.gate g).Drawing
  · rw [endDraw_eq h, drawEnded]
    split
    · exact (gatesAndWatch_secluded _ _ s).trans (drawCompleted_secluded _ _)
    · exact gatesAndWatch_secluded _ _ s
  · rw [endDraw_not_drawing h]
    exact .refl s

theorem holdFelt_secluded (holder : Nat) (kind : HoldKind) (s : State) : Secluded s (holdFelt holder kind s) := by
  have hboth : Secluded s (workHeld (s.withdrawTip .hold)) :=
    (withdrawTip_secluded .hold s).trans (workHeld_secluded _)
  unfold holdFelt
  split
  · exact hboth
  · split
    · exact hboth
    · exact .refl s
  · exact withdrawTip_secluded .hold s
  · exact (endDraw_secluded .hold .a s).trans (endDraw_secluded .hold .b _)

theorem holdReported_secluded {f : Frame} (hf : f.kind ≠ .state) (holder : Nat) (s : State) :
    Secluded s (holdReported holder f s) := by
  unfold holdReported
  split
  · exact handOver_secluded hf s
  · exact .refl s

theorem holdTaken_secluded (holder : Nat) (body : HoldBody) (l : List Hold) (s : State) :
    Secluded s (holdTaken holder body l s) :=
  ((setHolds_secluded l s).trans (mark_secluded .holdChange _)).trans
    ((holdReported_secluded (f := .holdSet body) nofun holder _).trans (holdFelt_secluded holder body.kind _))

theorem enterHold_secluded (holder : Nat) (body : HoldBody) (s : State) : Secluded s (s.enterHold holder body) := by
  rcases enterHold_eq holder body s with h | ⟨l, h, -⟩
  · rw [h]; exact .refl s
  · rw [h, holdChanged_eq]; exact holdTaken_secluded holder body l s

theorem removeHold_secluded (holder : Nat) (kind : HoldKind) (s : State) : Secluded s (s.removeHold holder kind) := by
  rw [removeHold_eq]
  split
  · exact ((setHolds_secluded _ s).trans (mark_secluded .holdChange _)).trans
      (holdReported_secluded (f := .holdLift kind) nofun holder _)
  · exact .refl s

/-! ## An own reading on an isolated line -/

theorem recordReading_secluded (depth : Nat) (q : Quality) (sender : Nat) (d : Disposition) (s : State) :
    Secluded s (s.recordReading depth q sender d) := setColumnRecord_secluded _ s

theorem reanchor_secluded (depth : Nat) (s : State) : Secluded s (s.reanchor depth) := by
  have hset := setColumn_secluded { s.column with segments := reanchored (s.target depth) s.column.segments } s
  unfold State.reanchor
  dsimp only
  split
  · exact hset
  · exact hset.trans ((setColumnRecord_secluded _ _).trans (modelEvent_secluded _ _))

theorem reanchorReading_secluded (sender depth : Nat) (q : Quality) (s : State) :
    Secluded s (s.reanchorReading sender depth q) :=
  (reanchor_secluded depth s).trans (recordReading_secluded _ _ _ _ _)

theorem applyDecision_secluded (d : Decision) (sender depth : Nat) (q : Quality) (s : State) :
    Secluded s (s.applyDecision d sender depth q) := by
  have hheld := recordReading_secluded depth q sender .held s
  cases d with
  | reanchor => exact reanchorReading_secluded sender depth q s
  | reanchorAndLift =>
    exact ((reanchorReading_secluded sender depth q s).trans (removeHold_secluded _ .hangup _)).trans
      ((setWatch_secluded _ _).trans (mark_secluded .hangup _))
  | hold => exact hheld
  | holdAndGap => exact hheld.trans (setWatch_secluded _ _)
  | holdAndRaise =>
    exact (hheld.trans (setWatch_secluded _ _)).trans ((enterHold_secluded _ _ _).trans (mark_secluded .hangup _))

theorem takeSurface_secluded (sender depth : Nat) (q : Quality) (s : State) :
    Secluded s (s.takeSurface sender depth q) := by
  unfold State.takeSurface
  split
  · split
    · exact reanchorReading_secluded sender depth _ s
    · exact applyDecision_secluded _ sender depth _ s
  · exact ((setColumn_secluded _ s).trans (modelEvent_secluded .seeded _)).trans (recordReading_secluded _ _ _ _ _)

theorem removedAtIsolation_secluded (s : State) (f : Frame) : Secluded s (s.removedAtIsolation f) := by
  unfold State.removedAtIsolation
  split
  · exact takeSurface_secluded _ _ _ s
  all_goals exact frameLost_secluded _ s

/-- Settles O45: the line as the entry sets it, which no removed frame changes. -/
theorem isolationEntered : Obligations.IsolationEntered := by
  intro s
  have hafter : Secluded ((s.setLine s.line.isolate).mark .line) s.enterIsolated :=
    (withdrawTip_secluded .line _).trans (Secluded.foldl removedAtIsolation_secluded _ _)
  have hline : s.enterIsolated.line = s.line.isolate := hafter.line rfl
  have hclosed : ¬s.enterIsolated.TipOpen := fun h =>
    withdrawTip_closed .line _ ((Secluded.foldl removedAtIsolation_secluded _ _).tip h)
  have houter := enterIsolated_outer s
  dsimp only
  rw [hline]
  refine ⟨rfl, fun q hq => ?_, fun f hf => ?_, rfl, rfl, rfl, rfl, hafter.pending _ (isPending_mark_self _ _), hclosed,
    outer_mode houter, outer_peers houter, outer_store houter, outer_field houter⟩
  · obtain ⟨x, hx, rfl⟩ := List.mem_map.mp hq
    exact ⟨beq_iff_eq.mp (List.mem_filter.mp hx).2, rfl⟩
  · exact beq_iff_eq.mp (List.mem_filter.mp hf).2

end Sys2Proof.Machine
end

section
/-! Inputs in STARTING, and what the two restarts leave and keep (R10, R39, R71, R105, R146, R160, R162, R178 to R180). -/

namespace Sys2Proof.Machine

/-! ## First conditioned states (R71, R94, R105, R162) -/

theorem allConditioned_iff (s : State) : s.allConditioned = true ↔ ∀ j : InputNo, s.conditioned j ≠ none := by
  unfold State.allConditioned State.conditioned
  simp only [List.all_eq_true, Option.isSome_iff_ne_none]
  refine ⟨fun h j => h _ (by simp), fun h x hx => ?_⟩
  obtain ⟨i, hi, rfl⟩ := List.mem_iff_getElem.mp hx
  have hlt : i < 12 := by simpa using hi
  exact h ⟨i, hlt⟩

theorem restartGate_eq (g : Gate) (s : State) :
    s.restartGate g =
      { state := if s.ProvenClosed g then .closed
                 else if s.active (closedLimitInput g) = true ∧ s.active (openLimitInput g) = true then
                   .fault .limitConflict
                 else .fault .gateDrift
        mode := none, wetCap := none, mass := 0, token := none
        renewal := ⟨false, 0⟩, warning := ⟨false, 0⟩, stroke := ⟨false, 0⟩, dribble := ⟨true, false⟩
        record := none } := by
  unfold State.restartGate State.ProvenClosed GateSeq.restarted
  cases s.active (closedLimitInput g) <;> cases s.active (openLimitInput g) <;> rfl

theorem restartGate_isFault (g : Gate) (s : State) :
    (s.restartGate g).state.isFault = true ↔ ¬s.ProvenClosed g := by
  rw [restartGate_eq]
  by_cases hp : s.ProvenClosed g
  · rw [if_pos hp]
    exact ⟨nofun, fun h => absurd hp h⟩
  · rw [if_neg hp]
    refine ⟨fun _ => hp, fun _ => ?_⟩
    split <;> rfl

theorem startSequencers_eq (s : State) : s.startSequencers = gatesStarted s := by
  unfold State.startSequencers gatesStarted
  cases s.straps.role with
  | tip => rfl
  | draw =>
    dsimp only
    rw [← restartGate_eq, ← restartGate_eq]
    by_cases hp : s.ProvenClosed .a ∧ s.ProvenClosed .b
    · rw [if_pos hp]
      refine if_neg ?_
      rw [Bool.or_eq_true]
      exact not_or.mpr ⟨fun h => (restartGate_isFault .a s).mp h hp.1, fun h => (restartGate_isFault .b s).mp h hp.2⟩
    · rw [if_neg hp, ← union_ofGateFault]
      refine if_pos ?_
      rw [Bool.or_eq_true]
      exact (Classical.not_and_iff_not_or_not.mp hp).imp (restartGate_isFault .a s).mpr (restartGate_isFault .b s).mpr

theorem startBreaker_restarted (parked : Option Bool) :
    Breaker.restarted (parked == some true) =
      ⟨if parked = some true then .parked else .fault .notParked, ⟨false, 0⟩, ⟨false, 0⟩, none⟩ := by
  unfold Breaker.restarted
  simp only [beq_iff_eq]
  rfl

/-- The state of an input taken at the restart HALT and the breaker. -/
def inputTaken (i : InputNo) (x : InputState) (s : State) : State :=
  { s with
    field := { s.field with inputs := s.field.inputs.set i x }
    restartCauses :=
      if i = stopLoopInput ∧ x.conditioned = some false then { s.restartCauses with stopLoop := true }
      else s.restartCauses
    breaker :=
      if s.straps.role = .tip ∧ i = parkInput then
        ⟨if x.conditioned = some true then .parked else .fault .notParked, ⟨false, 0⟩, ⟨false, 0⟩, none⟩
      else s.breaker }

theorem takeFirst_eq (i : InputNo) (x : InputState) (s : State) : s.takeFirst i x = inputTaken i x s := by
  unfold State.takeFirst State.startBreaker State.startLoop inputTaken
  rw [← startBreaker_restarted, ← union_ofStopLoop]
  by_cases hl : i = stopLoopInput ∧ x.conditioned = some false
  · rw [if_pos hl, if_pos hl]
    by_cases hb : s.straps.role = .tip ∧ i = parkInput
    · rw [if_pos hb]; exact if_pos hb
    · rw [if_neg hb]; exact if_neg hb
  · rw [if_neg hl, if_neg hl]
    by_cases hb : s.straps.role = .tip ∧ i = parkInput
    · rw [if_pos hb]; exact if_pos hb
    · rw [if_neg hb]; exact if_neg hb

/-- An input's first state, with what the last of them brings. -/
theorem firstState_eq {s : State} {i : InputNo} (x : InputState) (hm : s.mode = .starting)
    (h : s.conditioned i = none) : s.firstState i x = firstStateTaken i x s := by
  rw [firstState_taken x hm h, takeFirst_eq]
  by_cases hlast : (∀ j : InputNo, (inputTaken i x s).conditioned j ≠ none) ∧ s.blocksStarted = false
  · rw [startBlocks_last ((allConditioned_iff _).mpr hlast.1) hlast.2, startSequencers_eq, ← wetEvaluated_eq]
    exact (if_pos hlast).symm
  · rw [startBlocks_waits]
    · exact (if_neg hlast).symm
    · obtain h | h := Classical.not_and_iff_not_or_not.mp hlast
      · exact .inl (Bool.eq_false_iff.mpr fun hk => h ((allConditioned_iff _).mp hk))
      · exact .inr (Bool.of_not_eq_false h)

/-- Settles O47. -/
theorem inputsConditioned : Obligations.InputsConditioned :=
  fun _ _ _ _ => ⟨exec_inputAlone, fun hm h =>
    ⟨congrArg Host.Outcome.next (firstState_eq _ hm h), congrArg Host.Outcome.next (firstState_eq _ hm h)⟩⟩

/-! ## Restarts (R179, R180) -/

theorem exec_restart (cold : Bool) (pins : StrapPins) (s : State) :
    exec (if cold = true then .coldRestart pins else .warmRestart pins) s = .next (s.restart cold pins) := by
  cases cold <;> rfl

theorem nat2_eq (m : Memory) (a : Nat) : m.nat2 a = twoAt m a := by
  unfold Memory.nat2 twoAt byteAt word16
  rw [BitVec.toNat_append, Nat.shiftLeft_eq, Nat.mul_comm, ← Nat.two_pow_add_eq_or_of_lt (BitVec.isLt _)]

theorem headroom_clamped (m : Memory) : (rangeHeadroom m).clamped = true ↔ 2000 < twoAt m (passAt m + 60) := by
  unfold rangeHeadroom Ranged.clamped Ranged.value
  rw [nat2_eq, bne_iff_ne]
  show max 0 (min (twoAt m (passAt m + 60)) 2000) ≠ twoAt m (passAt m + 60) ↔ _
  omega

theorem marks_iff (straps : Straps) (t : Store) :
    t.marks straps = true ↔ ProfileMarked (imageFailure t.image t.torn straps) t.image := by
  unfold Store.marks ProfileMarked Store.failure
  cases imageFailure t.image t.torn straps with
  | none => simp
  | some r => cases r <;> simp [headroom_clamped]

theorem store_profile_passed {straps : Straps} {t : Store} (h : imageFailure t.image t.torn straps = none) :
    t.profile straps = some (imageProfile t.image) ∧
    t.result straps = if clampCount t.image = 0 then .valid else .validClamped (clampCount t.image) := by
  unfold Store.profile Store.result Store.failure
  rw [h]
  exact ⟨rfl, rfl⟩

theorem store_profile_failed {straps : Straps} {t : Store} {why : ProfileReason}
    (h : imageFailure t.image t.torn straps = some why) :
    t.profile straps = none ∧ t.result straps = .invalid why := by
  unfold Store.profile Store.result Store.failure
  rw [h]
  exact ⟨rfl, rfl⟩

theorem latchStraps_rate (pins : StrapPins) :
    (latchStraps pins).rate = if pins.rate0 = true ∧ pins.rate1 = false then 20
      else if pins.rate0 = false ∧ pins.rate1 = true then 50 else 10 := by
  unfold latchStraps
  cases pins.rate0 <;> cases pins.rate1 <;> rfl

theorem atRestart_eq (straps : Straps) (t : Store) (p : Port) :
    p.atRestart (t.marks straps) =
      ⟨if ProfileMarked (imageFailure t.image t.torn straps) t.image then 0x801#12 else 1#12, 0xFFF#12, p.malformed,
        p.report, p.buffer, none, false, true⟩ := by
  unfold Port.atRestart
  rw [ite_of_iff (marks_iff straps t) rfl rfl]
  rfl

theorem restarted_torn (cold : Bool) (t : Store) :
    (t.restarted cold).torn = (t.torn || decide (t.write = .writing)) := by
  unfold Store.restarted
  cases t.write <;> rfl

theorem restarted_conditioned (raw : Vector Bool 12) (i : InputNo) : ((Field.restarted raw).inputs[i]).conditioned = none := by
  unfold Field.restarted
  simp

/-- Settles O48, field by field. -/
theorem restarts : Obligations.Restarts := by
  intro cold pins s
  refine ⟨s.restart cold pins, exec_restart cold pins s, rfl, rfl, rfl, rfl, rfl, latchStraps_rate pins, ?_, rfl, rfl,
    restarted_torn cold s.store, store_profile_passed, fun why => store_profile_failed, rfl, rfl, rfl, rfl, rfl, rfl, rfl, rfl,
    restarted_conditioned _, rfl, atRestart_eq _ _ _⟩
  cases cold <;> rfl

end Sys2Proof.Machine
end

section
/-! What a restart keeps of the column and of the peers' baselines (R10, R38, R39, R146). -/

namespace Sys2Proof.Machine

/-! ## The column (R10, R38, R39) -/

/-- The bands in force stay the same from one profile to the next. -/
theorem warm_sameBands {old new : Profile} (h : old.bands = new.bands) (c : Column) :
    (c.warm (some old) (some new)).segments = c.segments ∧ (c.warm (some old) (some new)).seeded = c.seeded := by
  have hkeep : ((some old).map Profile.bands == some new.bands) = true := by rw [Option.map_some, h, beq_self_eq_true]
  unfold Column.warm
  dsimp only
  rw [hkeep, Bool.true_and, if_pos rfl]
  exact ⟨rfl, rfl⟩

theorem warm_otherBands {old new : Profile} (h : old.bands ≠ new.bands) (c : Column) :
    (c.warm (some old) (some new)).segments = [] ∧ (c.warm (some old) (some new)).seeded = false := by
  have hkeep : ((some old).map Profile.bands == some new.bands) = false :=
    beq_eq_false_iff_ne.mpr fun hk => h (Option.some.inj hk)
  unfold Column.warm
  dsimp only
  rw [hkeep, Bool.false_and, if_neg nofun]
  exact ⟨rfl, rfl⟩

theorem warm_statistics (old new : Option Profile) (c : Column) :
    (c.warm old new).spillVolume = 0 ∧ (c.warm old new).driftCount = 0 ∧ (c.warm old new).lastReading = none := by
  cases new <;> exact ⟨rfl, rfl, rfl⟩

theorem warm_remainder (old : Option Profile) (new : Profile) (c : Column) :
    (c.warm old (some new)).remainder = if c.remainder < new.density then c.remainder else 0 := rfl

/-! ## The peers (R146) -/

theorem safe_records (own : Nat) (r : PeerRecord) (h : r ∈ (PeerTable.safe own).records) :
    r.role = none ∧ r.baseline = none := by
  obtain ⟨n, -, rfl⟩ := List.mem_map.mp h
  exact ⟨rfl, rfl⟩

/-- A record of the restarted table is that of a station of the table. -/
theorem restarted_records {cold : Bool} {own : Nat} {p : Profile} {old : PeerTable} {r : PeerRecord}
    (h : r ∈ (old.restarted cold own (some p)).records) :
    ∃ e ∈ tableOrder p.stations, r = PeerRecord.restarted e.number (some e.role)
      (if cold = true then none else keptBaseline old.records e.number e.role) := by
  obtain ⟨e, he, rfl⟩ := List.mem_map.mp h
  exact ⟨e, (List.mem_filter.mp he).1, rfl⟩

theorem restarted_cold_baseline {own : Nat} {p : Option Profile} {old : PeerTable} {r : PeerRecord}
    (h : r ∈ (old.restarted true own p).records) : r.baseline = none := by
  cases p with
  | none => exact (safe_records own r h).2
  | some p =>
    obtain ⟨e, -, rfl⟩ := restarted_records h
    rfl

/-- Every number of the table in 1 to 8 has its entry in order of number. -/
theorem mem_tableOrder {l : List StationEntry} {e : StationEntry} (he : e ∈ l) (hlow : 1 ≤ e.number)
    (hhigh : e.number ≤ 8) : ∃ x ∈ tableOrder l, x.number = e.number := by
  cases hf : l.find? (fun x => x.number == e.number) with
  | none => exact absurd (beq_self_eq_true _) (List.find?_eq_none.mp hf e he)
  | some x =>
    have hx := List.find?_some hf
    refine ⟨x, List.mem_filterMap.mpr ⟨e.number, ?_, hf⟩, beq_iff_eq.mp hx⟩
    simp only [List.mem_cons, List.not_mem_nil, or_false]
    omega

theorem restarted_has {cold : Bool} {own : Nat} {p : Profile} {old : PeerTable} {e : StationEntry} (he : e ∈ p.stations)
    (hlow : 1 ≤ e.number) (hhigh : e.number ≤ 8) (hown : e.number ≠ own) :
    ∃ r ∈ (old.restarted cold own (some p)).records, r.station = e.number := by
  obtain ⟨x, hx, hn⟩ := mem_tableOrder he hlow hhigh
  refine ⟨_, List.mem_map_of_mem (List.mem_filter.mpr ⟨hx, ?_⟩), hn⟩
  rw [hn]
  exact bne_iff_ne.mpr hown

section
variable {old : List PeerRecord} {station : Nat} {role : Role}

theorem keptBaseline_same {x : PeerRecord} (h : old.find? (fun x => x.station == station) = some x)
    (hr : x.role = some role) : keptBaseline old station role = x.baseline := by
  rw [keptBaseline, h]
  exact if_pos hr

theorem keptBaseline_other {x : PeerRecord} (h : old.find? (fun x => x.station == station) = some x)
    (hr : x.role ≠ some role) : keptBaseline old station role = none := by
  rw [keptBaseline, h]
  exact if_neg hr

theorem keptBaseline_new (h : ∀ x ∈ old, x.station ≠ station) : keptBaseline old station role = none := by
  rw [keptBaseline, List.find?_eq_none.mpr fun x hx => by rw [beq_iff_eq]; exact h x hx]
  rfl

end

/-- Settles O50: the column by the bands, the records by the table. -/
theorem restartKeeps : Obligations.RestartKeeps := by
  refine fun pins s => ⟨⟨s.restart true pins, rfl, rfl, fun r hr => restarted_cold_baseline hr⟩,
    s.restart false pins, rfl, ?_⟩
  obtain ⟨hspill, hdrift, hreading⟩ := warm_statistics s.profile (s.restart false pins).profile s.column
  have hcolumn : (s.restart false pins).column = s.column.warm s.profile (s.restart false pins).profile := rfl
  have hpeers : (s.restart false pins).peers =
      s.peers.restarted false (s.restart false pins).own (s.restart false pins).profile := rfl
  refine ⟨hspill, hdrift, hreading, fun old new ho hn hb => ?_, fun old new ho hn hb => ?_, fun new hn => ?_,
    fun hn => ⟨?_, fun r hr => ?_⟩, fun new hn => ⟨fun e he hlow hhigh hown => ?_, fun r hr => ?_⟩⟩
  · rw [hcolumn, ho, hn]; exact warm_sameBands hb s.column
  · rw [hcolumn, ho, hn]; exact warm_otherBands hb s.column
  · rw [hcolumn, hn]; exact warm_remainder _ new s.column
  · rw [hcolumn, hn]; rfl
  · rw [hpeers, hn] at hr
    exact safe_records _ r hr
  · rw [hpeers, hn]
    exact restarted_has he hlow hhigh hown
  · rw [hpeers, hn] at hr
    obtain ⟨e, -, rfl⟩ := restarted_records hr
    exact ⟨nofun, rfl, fun x hx hr => keptBaseline_same hx hr, fun x hx hr => keptBaseline_other hx hr, keptBaseline_new⟩

end Sys2Proof.Machine
end

section
/-! The stored image, byte by byte: its numbers, its profile, its clamps and its five checks (R2, R180, R189, 12.3). -/

namespace Sys2Proof.Machine

/-! ## Numbers and ranges of the image -/

theorem nat4_eq (m : Memory) (a : Nat) : m.nat4 a = fourAt m a := by
  have hlast : a + 2 + 1 = a + 3 := rfl
  unfold Memory.nat4 fourAt twoAt byteAt word32
  rw [hlast]
  simp only [BitVec.toNat_append, Nat.shiftLeft_eq, Nat.mul_comm _ (2 ^ 8), ← Nat.two_pow_add_eq_or_of_lt (BitVec.isLt _)]
  omega

theorem fourAt_lt (m : Memory) (a : Nat) : fourAt m a < 4294967296 := by rw [← nat4_eq]; exact BitVec.isLt _

theorem ranged_value {low high : Nat} (h : low ≤ high) (n : Nat) : Ranged.value ⟨n, low, high⟩ = nearest low high n := by
  unfold Ranged.value nearest
  dsimp only
  split
  · omega
  · split <;> omega

theorem imageBands_eq (m : Memory) : imageBands m = bandsAt m := by
  unfold imageBands bandsAt
  simp only [nat2_eq]
  rfl

theorem chute_eq (m : Memory) : chuteDepth (imageBands m) = chuteAt m := by rw [imageBands_eq]; rfl

theorem capacity_eq (m : Memory) : passCapacity (imageBands m) = capacityAt m := by rw [imageBands_eq]; rfl

/-! ## The profile, value by value -/

theorem role_read (m : Memory) (i : Nat) :
    (imageRole m i).getD .tip = if byteAt m (stationAt i + 1) = 2 then .draw else .tip := by
  show (if byteAt m (stationAt i + 1) = 1 then some Role.tip
    else if byteAt m (stationAt i + 1) = 2 then some .draw else none).getD .tip = _
  by_cases h1 : byteAt m (stationAt i + 1) = 1
  · rw [if_pos h1, if_neg (by omega)]; rfl
  · rw [if_neg h1]
    split <;> rfl

theorem sensor_read (n : Nat) : (Ranged.value ⟨n, 0, 1⟩ == 1) = decide (0 < n) := by
  unfold Ranged.value
  rw [Bool.eq_iff_iff, beq_iff_eq, decide_eq_true_eq]
  dsimp only
  omega

theorem imageEntry_eq (m : Memory) (i : Nat) :
    imageEntry m i =
      { number := byteAt m (stationAt i)
        role := if byteAt m (stationAt i + 1) = 2 then .draw else .tip
        brow := twoAt m (stationAt i + 2)
        sensor := decide (0 < byteAt m (stationAt i + 4))
        mountDepth := twoAt m (stationAt i + 5)
        maxRange := nearest 1 60000 (twoAt m (stationAt i + 7))
        inputs := (List.range 12).map (fun k =>
          ⟨decide (byteAt m (stationAt i + 9 + 2 * k) = 1),
            nearest 0 250 (byteAt m (stationAt i + 10 + 2 * k))⟩) } := by
  have hinput (k : Nat) : (⟨m.nat1 (entryOffset i + 9 + 2 * k) == 1,
      Ranged.value ⟨m.nat1 (entryOffset i + 10 + 2 * k), 0, 250⟩⟩ : InputProfile) =
      ⟨decide (byteAt m (stationAt i + 9 + 2 * k) = 1), nearest 0 250 (byteAt m (stationAt i + 10 + 2 * k))⟩ := by
    rw [ranged_value (by decide)]
    rfl
  unfold imageEntry
  rw [role_read, nat2_eq, nat2_eq, nat2_eq, sensor_read, ranged_value (by decide), List.map_congr_left fun k _ => hinput k]
  rfl

theorem imageStations_eq (m : Memory) :
    imageStations m = (List.range (byteAt m 3)).map (fun i =>
      { number := byteAt m (stationAt i)
        role := if byteAt m (stationAt i + 1) = 2 then .draw else .tip
        brow := twoAt m (stationAt i + 2)
        sensor := decide (0 < byteAt m (stationAt i + 4))
        mountDepth := twoAt m (stationAt i + 5)
        maxRange := nearest 1 60000 (twoAt m (stationAt i + 7))
        inputs := (List.range 12).map (fun k =>
          ⟨decide (byteAt m (stationAt i + 9 + 2 * k) = 1),
            nearest 0 250 (byteAt m (stationAt i + 10 + 2 * k))⟩) }) :=
  List.map_congr_left fun i _ => imageEntry_eq m i

theorem digest_read (m : Memory) :
    imageDigest m = (crc16 ([m.read 2] ++ bytesAt m 8 (4 * min (byteAt m 2) 8) ++ bytesAt m 40 2 ++ [m.read 3] ++
      bytesAt m 42 (33 * byteAt m 3))).toNat := rfl

/-- A value of the pass in the statement's terms, at one, two or four bytes. -/
theorem two_read {low high : Nat} (h : low ≤ high) (m : Memory) (k : Nat) :
    Ranged.value ⟨m.nat2 (passOffset m + k), low, high⟩ = nearest low high (twoAt m (passAt m + k)) := by
  rw [ranged_value h, nat2_eq]
  rfl

theorem four_read {low high : Nat} (h : low ≤ high) (m : Memory) (k : Nat) :
    Ranged.value ⟨m.nat4 (passOffset m + k), low, high⟩ = nearest low high (fourAt m (passAt m + k)) := by
  rw [ranged_value h, nat4_eq]
  rfl

theorem capacity_read (m : Memory) (k : Nat) :
    Ranged.value ⟨m.nat4 (passOffset m + k), 0, passCapacity (imageBands m)⟩ =
      nearest 0 (capacityAt m) (fourAt m (passAt m + k)) := by
  rw [four_read (Nat.zero_le _), capacity_eq]

theorem imageProfile_eq (m : Memory) : imageProfile m = profileAt m := by
  have hclasses : (List.range 6).map (fun i => (rangeClass m i).value) =
      (List.range 6).map (fun k => nearest 1000 600000 (fourAt m (passAt m + 4 * k))) :=
    List.map_congr_left fun k _ => four_read (by decide) m (4 * k)
  unfold imageProfile profileAt
  rw [Profile.mk.injEq]
  exact ⟨nat4_eq m 4, imageBands_eq m, nat2_eq m 40, imageStations_eq m, hclasses, two_read (by decide) m 24,
    two_read (by decide) m 26, two_read (by decide) m 28, two_read (by decide) m 30, two_read (by decide) m 32,
    two_read (by decide) m 34, two_read (by decide) m 36, two_read (by decide) m 38, two_read (by decide) m 40,
    two_read (by decide) m 42, two_read (by decide) m 44, two_read (by decide) m 46, two_read (by decide) m 48,
    two_read (by decide) m 50, capacity_read m 52, capacity_read m 56, two_read (by decide) m 60,
    two_read (by decide) m 62, two_read (by decide) m 64, ranged_value (by decide) _, digest_read m⟩

/-! ## The count of clamped values -/

/-- A ranged value as the statement writes it. -/
def Ranged.triple (r : Ranged) : Nat × Nat × Nat := (r.raw, r.low, r.high)

theorem clamped_iff {r : Ranged} (h : r.low ≤ r.high) : r.clamped = decide (r.raw < r.low ∨ r.high < r.raw) := by
  unfold Ranged.clamped Ranged.value
  rw [Bool.eq_iff_iff, bne_iff_ne, decide_eq_true_eq]
  omega

theorem imageRanges_ordered (m : Memory) : ∀ r ∈ imageRanges m, r.low ≤ r.high := by
  have hentry (i : Nat) : ∀ r ∈ entryRanges m i, r.low ≤ r.high := by
    simp [entryRanges]
  have hclass : ∀ r ∈ (List.range 6).map (rangeClass m), r.low ≤ r.high := by
    simp [rangeClass]
  unfold imageRanges
  simp only [List.forall_mem_append, List.forall_mem_flatMap, List.forall_mem_cons]
  refine ⟨⟨fun i _ => hentry i, hclass⟩, ?_⟩
  simp [rangeOfferTimeout, rangeSettle, rangeRenewal, rangeWarning, rangeStroke, rangeReturn, rangeWetRest,
    rangeStarvationWindow, rangeSurfaceInterval, rangeStatePeriod, rangeWetDrawLimit, rangeReportQuantum,
    rangeWeigherQuantum, rangeStarvationThreshold, rangeCushion, rangeDrawZone, rangeHeadroom, rangeTTol, rangeTHang,
    rangeQMin]

theorem triple_two (m : Memory) (a low high : Nat) : Ranged.triple ⟨m.nat2 a, low, high⟩ = (twoAt m a, low, high) := by
  rw [Ranged.triple, nat2_eq]

theorem triple_four (m : Memory) (a low high : Nat) : Ranged.triple ⟨m.nat4 a, low, high⟩ = (fourAt m a, low, high) := by
  rw [Ranged.triple, nat4_eq]

theorem entryRanges_triple (m : Memory) (i : Nat) :
    (entryRanges m i).map Ranged.triple =
      [(byteAt m (stationAt i + 4), 0, 1), (twoAt m (stationAt i + 7), 1, 60000)] ++
      (List.range 12).map (fun k => (byteAt m (stationAt i + 10 + 2 * k), 0, 250)) := by
  unfold entryRanges
  rw [List.map_append, List.map_map, List.map_cons, List.map_cons, triple_two]
  rfl

theorem rangedValues_eq (m : Memory) : rangedValues m = (imageRanges m).map Ranged.triple := by
  have hentries : ((List.range (stationCount m)).flatMap (entryRanges m)).map Ranged.triple =
      (List.range (byteAt m 3)).flatMap (fun i =>
        [(byteAt m (stationAt i + 4), 0, 1), (twoAt m (stationAt i + 7), 1, 60000)] ++
        (List.range 12).map (fun k => (byteAt m (stationAt i + 10 + 2 * k), 0, 250))) := by
    rw [List.map_flatMap]
    exact congrArg (List.flatMap · _) (funext fun i => entryRanges_triple m i)
  have hclasses : ((List.range 6).map (rangeClass m)).map Ranged.triple =
      (List.range 6).map (fun k => (fourAt m (passAt m + 4 * k), 1000, 600000)) := by
    rw [List.map_map]
    exact List.map_congr_left fun k _ => triple_four m _ _ _
  unfold imageRanges
  rw [List.map_append, List.map_append, hentries, hclasses]
  simp only [List.map_cons, List.map_nil, rangeOfferTimeout, rangeSettle, rangeRenewal, rangeWarning, rangeStroke,
    rangeReturn, rangeWetRest, rangeStarvationWindow, rangeSurfaceInterval, rangeStatePeriod, rangeWetDrawLimit,
    rangeReportQuantum, rangeWeigherQuantum, rangeStarvationThreshold, rangeCushion, rangeDrawZone, rangeHeadroom,
    rangeTTol, rangeTHang, rangeQMin, triple_two, triple_four, capacity_eq]
  rfl

theorem clampCount_eq (m : Memory) :
    clampCount m = ((rangedValues m).filter (fun x => decide (x.1 < x.2.1 ∨ x.2.2 < x.1))).length := by
  rw [rangedValues_eq, List.filter_map, List.length_map, clampCount]
  exact congrArg List.length (List.filter_congr fun r hr => clamped_iff (imageRanges_ordered m r hr))

/-! ## The five checks (R180) -/

theorem storeCheck_iff (torn : Bool) (m : Memory) : (torn || storeCheckFails m) = true ↔ StoreFails torn m := by
  have hcrc : crc32 (m.slice 0 (twoAt m 0 - 4)) ≠ BitVec.ofNat 32 (m.nat4 (twoAt m 0 - 4)) ↔
      (crc32 (bytesAt m 0 (twoAt m 0 - 4))).toNat ≠ fourAt m (twoAt m 0 - 4) := by
    rw [nat4_eq, ne_eq, ← BitVec.toNat_inj, BitVec.toNat_ofNat, Nat.mod_eq_of_lt (fourAt_lt _ _)]
    rfl
  have hlength : imageLength m = twoAt m 0 := nat2_eq m 0
  simp only [storeCheckFails, Bool.or_eq_true, decide_eq_true_eq, bne_iff_ne, hlength, hcrc, or_assoc, Config.bufferSize]

theorem geometry_iff (m : Memory) : geometryFails m = true ↔ GeometryFails m := by
  have hdensity : imageDensity m = twoAt m 40 := nat2_eq m 40
  have hcount : bandCount m = byteAt m 2 := rfl
  simp only [geometryFails, Bool.or_eq_true, decide_eq_true_eq, beq_iff_eq, List.any_eq_true, imageBands_eq, hdensity,
    hcount, or_assoc]
  rfl

theorem limitDepth_iff {m : Memory} (hroles : ∀ i, i < byteAt m 3 → byteAt m (stationAt i + 1) = 1 ∨
      byteAt m (stationAt i + 1) = 2) : limitDepthFails m = true ↔ LimitDepthFails m := by
  have hheadroom : (rangeHeadroom m).value = nearest 0 2000 (twoAt m (passAt m + 60)) := two_read (by decide) m 60
  simp only [limitDepthFails, imageStations_eq, List.any_map, List.any_eq_true, List.mem_range, Function.comp_apply,
    Bool.and_eq_true, beq_iff_eq, decide_eq_true_eq, chute_eq, hheadroom]
  refine exists_congr fun i => and_congr_right fun hi => and_congr_left fun _ => ?_
  obtain h | h := hroles i hi <;> simp [h]

theorem thresholds_iff (m : Memory) : thresholdsFail m = true ↔ ThresholdsFail m := by
  have hhang : (rangeTHang m).value = nearest 100 2000 (twoAt m (passAt m + 64)) := two_read (by decide) m 64
  have htol : (rangeTTol m).value = nearest 10 500 (twoAt m (passAt m + 62)) := two_read (by decide) m 62
  rw [thresholdsFail, decide_eq_true_eq, hhang, htol]

/-- What the table says of a role byte. -/
theorem imageRole_iff (m : Memory) (i : Nat) :
    (imageRole m i = some .tip ↔ byteAt m (stationAt i + 1) = 1) ∧
    (imageRole m i = some .draw ↔ byteAt m (stationAt i + 1) = 2) ∧
    ((imageRole m i).isNone = true ↔ byteAt m (stationAt i + 1) ≠ 1 ∧ byteAt m (stationAt i + 1) ≠ 2) := by
  have hrole : imageRole m i = if byteAt m (stationAt i + 1) = 1 then some .tip
    else if byteAt m (stationAt i + 1) = 2 then some .draw else none := rfl
  rw [hrole]
  by_cases h1 : byteAt m (stationAt i + 1) = 1
  · simp [h1]
  · by_cases h2 : byteAt m (stationAt i + 1) = 2
    · simp [h2]
    · simp [h1, h2]

/-- More than one number below `n` passes a test where one passes it after another. -/
theorem two_le_countP_range (p : Nat → Bool) (n : Nat) :
    2 ≤ (List.range n).countP p ↔ ∃ j, j < n ∧ ∃ i, i < j ∧ p i = true ∧ p j = true := by
  induction n with
  | zero => simp
  | succ n ih =>
    rw [List.range_succ, List.countP_append, List.countP_singleton]
    by_cases hn : p n = true
    · have hone : 1 ≤ (List.range n).countP p ↔ ∃ i, i < n ∧ p i = true := by
        rw [Nat.one_le_iff_ne_zero, ← Nat.pos_iff_ne_zero, List.countP_pos_iff]
        simp only [List.mem_range]
      rw [if_pos hn, show 2 ≤ (List.range n).countP p + 1 ↔ 1 ≤ (List.range n).countP p by omega, hone]
      refine ⟨fun ⟨i, hi, hp⟩ => ⟨n, Nat.lt_succ_self n, i, hi, hp, hn⟩, ?_⟩
      rintro ⟨j, hj, i, hi, hp, -⟩
      exact ⟨i, by omega, hp⟩
    · rw [if_neg hn, Nat.add_zero, ih]
      refine ⟨fun ⟨j, hj, h⟩ => ⟨j, by omega, h⟩, ?_⟩
      rintro ⟨j, hj, i, hi, hp, hq⟩
      refine ⟨j, Nat.lt_of_le_of_ne (by omega) fun hk => hn (hk ▸ hq), i, hi, hp, hq⟩

theorem countP_range_eq_zero (p : Nat → Bool) (n : Nat) :
    (List.range n).countP p = 0 ↔ ∀ i, i < n → ¬p i = true := by
  simp only [List.countP_eq_zero, List.mem_range]

theorem countP_range_ne_one (p : Nat → Bool) (n : Nat) :
    (List.range n).countP p ≠ 1 ↔
      (∀ i, i < n → ¬p i = true) ∨ ∃ j, j < n ∧ ∃ i, i < j ∧ p i = true ∧ p j = true := by
  rw [← countP_range_eq_zero, ← two_le_countP_range]
  omega

theorem nodup_map_range {f : Nat → Nat} (n : Nat) :
    ¬((List.range n).map f).Nodup ↔ ∃ j, j < n ∧ ∃ i, i < j ∧ f i = f j := by
  rw [List.Nodup, List.pairwise_map, List.pairwise_iff_getElem]
  simp only [List.length_range, List.getElem_range]
  constructor
  · intro h
    refine Classical.byContradiction fun hnone => h fun i j _ hj hi he => ?_
    exact hnone ⟨j, hj, i, hi, he⟩
  · rintro ⟨j, hj, i, hi, he⟩ h
    exact h i j (Nat.lt_trans hi hj) hj hi he

/-- The roles of the table counted. -/
theorem roles_count (m : Memory) :
    ((imageRoles m).count (some .draw) ≠ 1 ↔
      (∀ i, i < byteAt m 3 → byteAt m (stationAt i + 1) ≠ 2) ∨
      ∃ j, j < byteAt m 3 ∧ ∃ i, i < j ∧ byteAt m (stationAt i + 1) = 2 ∧ byteAt m (stationAt j + 1) = 2) ∧
    ((imageRoles m).count (some .tip) = 0 ↔ ∀ i, i < byteAt m 3 → byteAt m (stationAt i + 1) ≠ 1) := by
  have hcount (r : Option Role) :
      (imageRoles m).count r = (List.range (byteAt m 3)).countP (fun i => imageRole m i == r) := List.countP_map
  rw [hcount, hcount, countP_range_ne_one, countP_range_eq_zero]
  simp only [beq_iff_eq, imageRole_iff, ne_eq, and_self]

/-- The straps stand in the table. -/
theorem straps_listed (straps : Straps) (m : Memory) :
    ((imageNumbers m).zip (imageRoles m)).contains (straps.station, some straps.role) = true ↔
      ∃ i, i < byteAt m 3 ∧ byteAt m (stationAt i) = straps.station ∧
        byteAt m (stationAt i + 1) = (if straps.role = .tip then 1 else 2) := by
  have hzip : (imageNumbers m).zip (imageRoles m) =
      (List.range (byteAt m 3)).map (fun i => (byteAt m (stationAt i), imageRole m i)) := List.zip_map' ..
  rw [List.contains_iff_mem, hzip, List.mem_map]
  simp only [List.mem_range, Prod.mk.injEq]
  refine exists_congr fun i => and_congr_right fun _ => and_congr_right fun _ => ?_
  cases straps.role with
  | tip => exact (imageRole_iff m i).1
  | draw => exact (imageRole_iff m i).2.1

theorem stationTable_iff (straps : Straps) (m : Memory) :
    stationTableFails m straps = true ↔ StationTableFails straps m := by
  obtain ⟨hdraw, htip⟩ := roles_count m
  have hnumbers : (imageNumbers m).any (fun n => decide (n < 1) || decide (8 < n)) = true ↔
      ∃ i, i < byteAt m 3 ∧ (byteAt m (stationAt i) < 1 ∨ 8 < byteAt m (stationAt i)) := by
    simp only [imageNumbers, List.any_map, List.any_eq_true, List.mem_range, Function.comp_apply, Bool.or_eq_true,
      decide_eq_true_eq]
    rfl
  have hdistinct : (!decide (imageNumbers m).Nodup) = true ↔
      ∃ j, j < byteAt m 3 ∧ ∃ i, i < j ∧ byteAt m (stationAt i) = byteAt m (stationAt j) := by
    rw [Bool.not_eq_true', decide_eq_false_iff_not]
    exact nodup_map_range _
  have hroles : (imageRoles m).any (·.isNone) = true ↔
      ∃ i, i < byteAt m 3 ∧ byteAt m (stationAt i + 1) ≠ 1 ∧ byteAt m (stationAt i + 1) ≠ 2 := by
    simp only [imageRoles, List.any_map, List.any_eq_true, List.mem_range, Function.comp_apply, imageRole_iff]
    rfl
  have hlisted : (!((imageNumbers m).zip (imageRoles m)).contains (straps.station, some straps.role)) = true ↔
      ¬∃ i, i < byteAt m 3 ∧ byteAt m (stationAt i) = straps.station ∧
        byteAt m (stationAt i + 1) = (if straps.role = .tip then 1 else 2) := by
    rw [← straps_listed, Bool.not_eq_true', Bool.not_eq_true]
  have hlength : imageLength m = twoAt m 0 := nat2_eq m 0
  have hcount : stationCount m = byteAt m 3 := rfl
  simp only [stationTableFails, Bool.or_eq_true, bne_iff_ne, beq_iff_eq, decide_eq_true_eq, hlength, hcount, hnumbers,
    hdistinct, hroles, hdraw, htip, hlisted, or_assoc]
  exact or_left_comm.trans (or_congr_right or_left_comm)

/-- Settles O49. -/
theorem imageChecked : Obligations.ImageChecked := by
  refine fun m torn straps => ⟨?_, imageProfile_eq m, clampCount_eq m⟩
  refine ite_of_iff_under (storeCheck_iff torn m) (fun _ => rfl) fun _ => ?_
  refine ite_of_iff_under (geometry_iff m) (fun _ => rfl) fun _ => ?_
  refine ite_of_iff_under (stationTable_iff straps m) (fun _ => rfl) fun htable => ?_
  have hroles (i : Nat) (hi : i < byteAt m 3) : byteAt m (stationAt i + 1) = 1 ∨ byteAt m (stationAt i + 1) = 2 := by
    refine Classical.byContradiction fun hk => ?_
    exact htable (.inr (.inr (.inr (.inr (.inr (.inl ⟨i, hi, not_or.mp hk⟩))))))
  refine ite_of_iff_under (limitDepth_iff hroles) (fun _ => rfl) fun _ => ?_
  exact ite_of_iff (thresholds_iff m) rfl rfl

end Sys2Proof.Machine
end

section
/-! A peer's STATE at every block (R26, R29, R35, R36, R68, R91, R147, R150 to R157). -/

namespace Sys2Proof.Machine

/-! ## The holds it lists (R68) -/

theorem toNat_mod_32_eq_zero (b : Byte) :
    b.toNat % 32 = 0 ↔ ∀ i, i < 5 → b.getLsbD i = false := by
  have hlow : b.toNat % 32 = (b.setWidth 5).toNat := (BitVec.toNat_setWidth 5 b).symm
  rw [hlow]
  constructor
  · intro h i hi
    have hzero : b.setWidth 5 = 0#5 := BitVec.eq_of_toNat_eq h
    have hbit := congrArg (fun x : BitVec 5 => x.getLsbD i) hzero
    simpa [BitVec.getLsbD_setWidth, hi] using hbit
  · intro h
    have hzero : b.setWidth 5 = 0#5 := BitVec.eq_of_getLsbD_eq fun i hi => by
      simp [hi, h i hi]
    rw [hzero]
    rfl

theorem causesOf_isEmpty_iff (b : Byte) : (causesOf b).isEmpty = true ↔ b.toNat % 32 = 0 := by
  rw [toNat_mod_32_eq_zero]
  simp only [Causes.isEmpty, causesOf, Bool.not_eq_true', Bool.or_eq_false_iff, and_assoc]
  constructor
  · rintro ⟨h0, h1, h2, h3, h4⟩ i hi
    match i, hi with
    | 0, _ => exact h0
    | 1, _ => exact h1
    | 2, _ => exact h2
    | 3, _ => exact h3
    | 4, _ => exact h4
  · exact fun h => ⟨h 0 (by decide), h 1 (by decide), h 2 (by decide), h 3 (by decide), h 4 (by decide)⟩

theorem stateHaltBody_eq (p : StatePayload) : stateHaltBody p = haltListed p :=
  ite_of_iff (causesOf_isEmpty_iff p.haltCauses) rfl rfl

/-- A HANGUP by its source: RANGING with the gate bit clear, STARVED with no figure of a reading. -/
theorem hangupBySource (source : Nat) (gateB : Bool) (gap : Int) (volume surface : Nat) :
    (if source = 1 ∧ gateB = false then some (HoldBody.ranging gap surface)
     else if source = 2 ∧ volume = 0 ∧ surface = 0 then some (.starved (if gateB = true then .b else .a)) else none) =
    match source, gateB, volume, surface with
    | 1, false, _, surface => some (.ranging gap surface)
    | 2, gateB, 0, 0 => some (.starved (if gateB = true then .b else .a))
    | _, _, _, _ => none := by
  match source with
  | 0 => rfl
  | 1 => cases gateB <;> rfl
  | 2 => cases volume <;> cases surface <;> simp
  | n + 3 => simp

theorem stateHangupBody_eq (p : StatePayload) : stateHangupBody p = hangupListed p := by
  unfold stateHangupBody
  simp only [← BitVec.toNat_inj (y := 0#32), ← BitVec.toNat_inj (y := 0#16)]
  exact hangupBySource p.hangupSource.toNat p.hangupGateB p.gapVolume.toInt p.gapVolume.toNat p.gapSurface.toNat

/-- An entry that enters, in the statement's terms. -/
theorem enterHold_matched {holder : Nat} {kind : HoldKind} {body : HoldBody} (hb : body.kind = kind) (s : State) :
    s.enterHold holder body = holdMatched holder kind (some body) s := by
  subst hb
  unfold holdMatched
  rw [holdOf_find]
  cases hf : s.holdOf holder body.kind with
  | none => exact enterHold_new ((holdOf_none_iff _ _ _).mp hf)
  | some h =>
    dsimp only
    by_cases hbody : h.body = body
    · rw [if_pos hbody, enterHold_same hf hbody]
    · rw [if_neg hbody, enterHold_changed hf hbody]

theorem removeHold_matched (holder : Nat) (kind : HoldKind) (s : State) :
    s.removeHold holder kind = holdMatched holder kind none s := by
  unfold holdMatched State.removeHold
  rw [holdOf_find]
  cases s.holdOf holder kind with
  | none => rfl
  | some h => rw [reportHold_eq]; rfl

theorem reconcileHold_eq {kind : HoldKind} {listed : Option HoldBody} (h : ∀ b ∈ listed, b.kind = kind) (holder : Nat)
    (s : State) : s.reconcileHold holder kind listed = holdMatched holder kind listed s := by
  cases listed with
  | none => exact removeHold_matched holder kind s
  | some body => exact enterHold_matched (h body rfl) s

theorem haltListed_kind (p : StatePayload) : ∀ b ∈ haltListed p, b.kind = .halt := by
  intro b hb
  unfold haltListed at hb
  split at hb
  · cases hb
  · obtain rfl := Option.some.inj hb; rfl

theorem hangupListed_kind (p : StatePayload) : ∀ b ∈ hangupListed p, b.kind = .hangup := by
  intro b hb
  unfold hangupListed at hb
  split at hb
  · obtain rfl := Option.some.inj hb; rfl
  · obtain rfl := Option.some.inj hb; rfl
  · cases hb

theorem entryListed_kind (p : StatePayload) :
    ∀ b ∈ (if p.entryHeld = true then some HoldBody.entry else none), b.kind = .entry := by
  intro b hb
  split at hb
  · obtain rfl := Option.some.inj hb; rfl
  · cases hb

theorem reconcileHolds_eq (holder : Nat) (p : StatePayload) (s : State) :
    s.reconcileHolds holder p = holdsMatched holder p s := by
  rw [State.reconcileHolds, stateHaltBody_eq, stateHangupBody_eq, stateEntryBody, reconcileHold_eq (haltListed_kind p),
    reconcileHold_eq (entryListed_kind p), reconcileHold_eq (hangupListed_kind p)]
  rfl

/-! ## The reservation it declares (R91) -/

theorem loadInRange_true_iff (cls volume : Nat) :
    loadInRange cls volume = true ↔ 1 ≤ cls ∧ cls ≤ 6 ∧ 1000 ≤ volume ∧ volume ≤ 600000 := by
  simp only [loadInRange, Bool.and_eq_true, decide_eq_true_eq, and_assoc]

theorem reconcileReservation_some (n cls volume : Nat) (s : State) :
    s.reconcileReservation n (some (cls, volume)) = { s with reservations :=
      (if ∃ r ∈ s.reservations, r.station = n then
        s.reservations.map (fun r => if r.station = n then { r with cls := cls, volume := volume } else r)
      else s.reservations ++ [⟨n, cls, volume, s.time⟩]) } := by
  unfold State.reconcileReservation
  dsimp only
  cases hf : reservationOf n s.reservations with
  | none =>
    rw [if_neg]
    · rfl
    · rintro ⟨r, hr, he⟩
      exact List.find?_eq_none.mp hf r hr (beq_iff_eq.mpr he)
  | some r =>
    have hn := List.find?_some hf
    rw [if_pos ⟨r, List.mem_of_find?_eq_some hf, beq_iff_eq.mp hn⟩]
    rfl

theorem reconcileReservation_eq (n : Nat) (p : StatePayload) (s : State) :
    s.reconcileReservation n (stateReservation p) = reservationMatched n p s := by
  unfold stateReservation reservationMatched
  by_cases h : loadInRange p.openClass.toNat p.openVolume.toNat = true
  · rw [if_pos h, reconcileReservation_some]
    exact (if_pos ((loadInRange_true_iff _ _).mp h)).symm
  · rw [if_neg h]
    exact (if_neg fun hk => h ((loadInRange_true_iff _ _).mpr hk)).symm

/-! ## The peer table's part (R147, R150) -/

/-- The digest of the frame differs from the one in force. -/
abbrev Differs (p : StatePayload) (s : State) : Bool :=
  !(p.digestPresent && s.profile.isSome && p.digest.toNat == s.prof.digest)

/-- The record with the frame as its last STATE. -/
def stateNoted (h : Header) (p : StatePayload) (s : State) : State :=
  State.updatePeer h.station.toNat (fun r => { r with lastState := some (p, s.time), mismatch := Differs p s })
    (peerHeard h s)

/-- The peer table's part of a STATE, PROFILE marked where the flag changes. -/
def stateTabled (h : Header) (p : StatePayload) (s : State) : State :=
  if s.mismatched h.station.toNat = Differs p s then stateNoted h p s else (stateNoted h p s).mark .profile

theorem takePeerState_eq (h : Header) (p : StatePayload) (s : State) :
    (peerHeard h s).takePeerState p h.station.toNat = stateTabled h p s := by
  obtain ⟨-, hflag, -⟩ := heard_record h.station.toNat h.seq.toNat s
  have hflag : (peerHeard h s).mismatched h.station.toNat = s.mismatched h.station.toNat := hflag
  obtain ⟨peers, line, port, hheard⟩ := heard_eq h.station.toNat h.seq.toNat s
  have hdiffers : (peerHeard h s).digestDiffers p = Differs p s := by unfold peerHeard; rw [hheard]; rfl
  have htime : (peerHeard h s).time = s.time := by unfold peerHeard; rw [hheard]
  rw [State.takePeerState, hflag, hdiffers, htime]
  unfold stateTabled
  by_cases he : s.mismatched h.station.toNat = Differs p s
  · rw [if_pos he, he, bne_self_eq_false]; rfl
  · rw [if_neg he, bne_iff_ne.mpr he]; rfl

/-- The peer table's part changes the peers, the line's counters and the event summary alone. -/
theorem stateTabled_keeps (h : Header) (p : StatePayload) (s : State) :
    (stateTabled h p s).mode = s.mode ∧ (stateTabled h p s).column = s.column ∧
    (stateTabled h p s).reservations = s.reservations ∧ (stateTabled h p s).watch = s.watch := by
  obtain ⟨peers, line, port, hheard⟩ := heard_eq h.station.toNat h.seq.toNat s
  unfold stateTabled stateNoted peerHeard
  rw [hheard]
  split <;> exact ⟨rfl, rfl, rfl, rfl⟩

theorem stateTabled_peer (h : Header) (p : StatePayload) (s : State) :
    (stateTabled h p s).peer h.station.toNat = (s.peer h.station.toNat).map (fun r =>
      { r.heard h.seq.toNat s.time s.silenceMs with lastState := some (p, s.time), mismatch := Differs p s }) := by
  have hnoted : (stateTabled h p s).peer h.station.toNat = (stateNoted h p s).peer h.station.toNat := by
    unfold stateTabled
    split <;> rfl
  rw [hnoted, stateNoted, peer_updatePeer
    (f := fun r => { r with lastState := some (p, s.time), mismatch := Differs p s }) (fun _ => rfl),
    peerHeard, peer_heard, Option.map_map]
  rfl

theorem peer_of_handedOn {h : Header} {s : State} (hs : s.HandedOn h) : ∃ r, s.peer h.station.toNat = some r := by
  obtain ⟨-, -, r, hr, he⟩ := hs
  exact Option.isSome_iff_exists.mp (List.find?_isSome.mpr ⟨r, hr, beq_iff_eq.mpr he⟩)

/-- The sender's record with the STATE in it: role and baseline as before, the flag of this frame. -/
theorem stateTabled_record {h : Header} {s : State} (hs : s.HandedOn h) (p : StatePayload) :
    (stateTabled h p s).peerRole h.station.toNat = s.peerRole h.station.toNat ∧
    (stateTabled h p s).baselineOf h.station.toNat = s.baselineOf h.station.toNat ∧
    (stateTabled h p s).mismatched h.station.toNat = Differs p s := by
  obtain ⟨r, hr⟩ := peer_of_handedOn hs
  unfold State.peerRole State.baselineOf State.mismatched
  rw [stateTabled_peer, hr]
  exact ⟨rfl, rfl, rfl⟩

/-- A baseline that advances leaves role and flag of its record. -/
theorem withBaseline_record (n : Nat) (b : Baseline) (s : State) :
    (withBaseline n b s).peerRole n = s.peerRole n ∧ (withBaseline n b s).mismatched n = s.mismatched n := by
  have hpeer : (withBaseline n b s).peer n = (s.peer n).map (fun r => { r with baseline := some b }) :=
    peer_updatePeer (f := fun r => { r with baseline := some b }) (fun _ => rfl) s
  unfold State.peerRole State.mismatched
  rw [hpeer]
  cases s.peer n <;> exact ⟨rfl, rfl⟩

/-! ## The blocks' part -/

theorem columnFromState_outer (p : StatePayload) (n rise : Nat) (s : State) :
    (s.columnFromState p n rise).outer = s.outer := by
  unfold State.columnFromState
  split
  · exact seedState_outer ..
  · split
    · exact addLayers_outer ..
    · exact drawIncrement_outer ..
    · rfl

theorem seedsFrom_iff (p : StatePayload) (n : Nat) (s : State) :
    s.seedsFrom p n = true ↔ s.column.seeded = false ∧ p.modelSeeded = true ∧ s.mismatched n = false := by
  simp only [State.seedsFrom, Bool.and_eq_true, Bool.not_eq_true', and_assoc]

/-- The seed where the model takes one, else the catch-up of the sender's role. -/
theorem columnFromState_eq {n : Nat} {s caughtUp : State} (p : StatePayload) (rise : Nat)
    (hcaught : (match s.peerRole n with
      | some .tip => s.addLayers [catchUpSegment n rise]
      | some .draw => s.drawIncrement rise
      | none => s) = caughtUp) :
    s.columnFromState p n rise =
      if s.column.seeded = false ∧ p.modelSeeded = true ∧ s.mismatched n = false then seededFrom p s else caughtUp := by
  unfold State.columnFromState
  by_cases h : s.seedsFrom p n = true
  · rw [if_pos h, if_pos ((seedsFrom_iff p n s).mp h)]
    exact seedWith_eq ((seedsFrom_iff p n s).mp h).1 _
  · rw [if_neg h, if_neg fun hk => h ((seedsFrom_iff p n s).mpr hk)]
    exact hcaught

/-- The roll-call ends where every record has answered (R152). -/
def rollCallEnded (v : State) : State :=
  if v.mode = .listening ∧ ∀ r ∈ v.peers.records, r.lastState ≠ none then
    { v with mode := .ready, peers := { v.peers with rollCall := ⟨false, 0⟩ } }
  else v

theorem rollCallAnswered_eq (s : State) : s.rollCallAnswered = rollCallEnded s := by
  unfold State.rollCallAnswered rollCallEnded
  refine ite_of_iff ?_ rfl rfl
  simp only [State.allAnswered, List.all_eq_true, Option.isSome_iff_ne_none]

/-- The holds made to match, once the gates have been told of a new wet status. -/
def stateHeld (n : Nat) (p : StatePayload) (before v : State) : State := holdsMatched n p (wetTold before v)

theorem stateHeld_outer (n : Nat) (p : StatePayload) (before v : State) : (stateHeld n p before v).outer = v.outer := by
  rw [stateHeld, ← reconcileHolds_eq, reconcileHolds_outer, ← noteWet_eq, noteWet_outer]

theorem peerRole_outer {s t : State} (h : t.outer = s.outer) (n : Nat) : t.peerRole n = s.peerRole n := by
  rw [State.peerRole, State.peer, outer_peers h]
  rfl

/-- The blocks' part of a STATE, on a state `t` after the peer table's part. -/
theorem takeState_eq {n : Nat} {t u caughtUp : State} (p : StatePayload)
    (hu : u = t.advanceBaseline n p.generation.toNat p.counter.toNat)
    (hcaught : (match u.peerRole n with
      | some .tip => u.addLayers [catchUpSegment n (counterRise (t.baseOf n p.generation.toNat) p.counter.toNat).1]
      | some .draw => u.drawIncrement (counterRise (t.baseOf n p.generation.toNat) p.counter.toNat).1
      | none => u) = caughtUp) :
    t.takeState p n =
      let v := stateHeld n p t
        (if u.column.seeded = false ∧ p.modelSeeded = true ∧ u.mismatched n = false then seededFrom p u else caughtUp)
      rollCallEnded (if u.peerRole n = some .tip then reservationMatched n p v else v) := by
  unfold State.takeState
  rw [← hu, rollCallAnswered_eq, reconcileHolds_eq, noteWet_eq, State.reservationFromState, reconcileReservation_eq,
    ← stateHeld, peerRole_outer ((stateHeld_outer ..).trans (columnFromState_outer ..)), columnFromState_eq p _ hcaught]

/-- Settles O40: the peer table's part, then in SAFE nothing, and else the blocks' part in its order. -/
theorem peerStateTaken : Obligations.PeerStateTaken := by
  intro h p s hs j differs noted t rise u column held answered
  obtain ⟨hrole, hbaseline, hmismatch⟩ := stateTabled_record hs p
  obtain ⟨hroleU, hmismatchU⟩ := withBaseline_record j rise.2 t
  have hrun : exec (.stateArrival (.received h p)) s =
      .next (State.inform (if t.mode = .safe then t else t.takeState p j) s) := by
    show event (State.received h suitsAny (State.takePeerState p) (State.takeState p)) s = _
    rw [event, received_handedOn hs, if_pos (by rfl)]
    dsimp only
    rw [takePeerState_eq]
    rfl
  obtain ⟨hmode, hcolumn, hreservations, hwatch⟩ : t.mode = s.mode ∧ t.column = s.column ∧
      t.reservations = s.reservations ∧ t.watch = s.watch := stateTabled_keeps h p s
  have hseeded : u.column.seeded = s.column.seeded := congrArg Column.seeded hcolumn
  have hu : u = t.advanceBaseline j p.generation.toNat p.counter.toNat := (advanceBaseline_eq hbaseline).symm
  have hrise : (counterRise (t.baseOf j p.generation.toNat) p.counter.toNat).1 = rise.1 := by
    have hbase : t.baseOf j p.generation.toNat = s.baseOf j p.generation.toNat :=
      congrArg (Baseline.against _) hbaseline
    rw [hbase]
    exact (congrArg Prod.fst (counterTaken_eq j p.generation.toNat p.counter.toNat s)).symm
  have hflag : u.mismatched j = differs := hmismatchU.trans hmismatch
  refine ⟨fun hm => ?_, fun hm hr => ?_, fun hm hr => ?_⟩
  · rw [hrun, if_pos (hmode.trans hm)]
    exact congrArg Host.Outcome.next (inform_same hcolumn hreservations (congrArg Watch.wet hwatch))
  · have hr' : u.peerRole j = some .tip := hroleU.trans (hrole.trans hr)
    rw [hrun, if_neg (by rw [hmode]; exact hm), takeState_eq p hu rfl, hr', hrise, hseeded, hflag]
    rfl
  · have hr' : u.peerRole j = some .draw := hroleU.trans (hrole.trans hr)
    rw [hrun, if_neg (by rw [hmode]; exact hm), takeState_eq p hu rfl, hr', hrise, hseeded, hflag]
    rfl

end Sys2Proof.Machine
end

section
/-! A weigher pulse (R123 to R125, R164): how it counts, what it ends, and the DRAWN frame it forms. -/

namespace Sys2Proof.Machine

/-! ## What a pulse at a DRAW station leaves alone -/

/-- The state with everything blanked that a pulse may change after the raw count. -/
def State.remote (s : State) : State :=
  { s with
    column := Column.cold, watch := Watch.restarted
    gates := ⟨GateSeq.restarted false false, GateSeq.restarted false false⟩
    drawn := ⟨0, 0, false⟩, line := Line.restarted
    port := { s.port with pendingEvents := 0#12 } }

/-- The state with everything blanked that the end of a draw, or a DRAWN, may change where no frame of the tip
sequencer is queued. -/
def State.apart (s : State) : State :=
  { s with
    watch := { Watch.restarted with wet := s.watch.wet }
    gates := ⟨GateSeq.restarted false false, GateSeq.restarted false false⟩
    drawn := ⟨s.drawn.cumulative, 0, false⟩, line := Line.restarted
    port := { s.port with pendingEvents := 0#12 } }

theorem remote_of_apart {s t : State} (h : t.apart = s.apart) : t.remote = s.remote :=
  (congrArg State.remote h : t.apart.remote = s.apart.remote)

theorem frameLost_untipped {f : Frame} (hf : f.kind.Untipped) (s : State) : s.frameLost f = s := by
  cases f with
  | offer => exact absurd rfl hf.1
  | withdraw => exact absurd rfl hf.2.1
  | tipped => exact absurd rfl hf.2.2
  | holdSet | holdLift | drawn | surface | state => rfl

/-- A frame handed over among frames that tell their producers nothing changes the line alone. -/
theorem handOver_untipped {f : Frame} (hf : f.kind.Untipped) {s : State} (h : s.line.Untipped) :
    ∃ l : Line, l.Untipped ∧ s.handOver f = { s with line := l } := by
  obtain ⟨hline, hlost⟩ := offer_untipped h hf
  have hqueued : ∃ l : Line, l.Untipped ∧ s.enqueue f = { s with line := l } := by
    refine ⟨(s.line.offer f).1, hline, ?_⟩
    rw [enqueue_eq]
    cases ho : (s.line.offer f).2 with
    | none => rfl
    | some x => exact frameLost_untipped (hlost x ho) _
  cases hs : s.line.state with
  | offline => exact ⟨s.line, h, by rw [State.handOver, hs]⟩
  | active => rw [handOver_taken (.inl hs)]; exact hqueued
  | isolated =>
    by_cases hk : f.kind = .state
    · rw [handOver_taken (.inr ⟨hs, hk⟩)]; exact hqueued
    · refine ⟨s.line, h, ?_⟩
      rw [State.handOver, hs]
      exact (if_neg hk).trans (frameLost_untipped hf s)

theorem drawn_untipped (generation cumulative : Nat) (a b d : Bool) :
    (Frame.drawn generation cumulative a b d).kind.Untipped := ⟨nofun, nofun, nofun⟩

theorem formDrawn_eq {s : State} (h : s.line.Untipped) : ∃ l : Line, l.Untipped ∧
    s.formDrawn = { s with drawn := ⟨s.drawn.cumulative, s.drawn.cumulative, false⟩, line := l } :=
  handOver_untipped (drawn_untipped ..) (s := s.setDrawn ⟨s.drawn.cumulative, s.drawn.cumulative, false⟩) h

theorem drawnReported_eq (s : State) : drawnReported s = s.formDrawnIfAdvanced := rfl

/-! ## The DRAWN frame (R125, R133) -/

/-- The queue can take a DRAWN: the line is ACTIVE, none is on the wire, and it replaces one or there is room. -/
structure TakesDrawn (l : Line) : Prop where
  active : l.state = .active
  room   : l.queue.length < 8 ∨ ∃ q ∈ l.queue, q.frame.kind = .drawn
  idle   : ∀ q ∈ l.queue, q.frame.kind = .drawn → q.onWire = false

theorem enqueue_drawn {s : State} {f : Frame} (hf : f.kind = .drawn) (h : TakesDrawn s.line) :
    TakesDrawn (s.enqueue f).line ∧ ∃ q ∈ (s.enqueue f).line.queue, q.frame = f := by
  suffices hoffer : ∃ l : Line, s.line.offer f = (l, none) ∧ TakesDrawn l ∧ ∃ q ∈ l.queue, q.frame = f by
    obtain ⟨l, ho, htakes, hq⟩ := hoffer
    rw [enqueue_eq, ho]
    exact ⟨htakes, hq⟩
  by_cases hjoin : ∀ x ∈ s.line.queue, x.frame.kind ≠ f.kind
  · have hlen : s.line.queue.length < 8 := h.room.resolve_right fun ⟨q, hq, hk⟩ => hjoin q hq (hk.trans hf.symm)
    refine ⟨_, (offer_joins (.inr hjoin)).trans (join_short hlen f), ⟨h.active, .inr ?_, ?_⟩, ?_⟩
    · exact ⟨_, List.mem_append_right _ (List.mem_singleton.mpr rfl), hf⟩
    · intro q hq hk
      obtain hq | hq := List.mem_append.mp hq
      · exact h.idle q hq hk
      · rw [List.mem_singleton.mp hq]
    · exact ⟨_, List.mem_append_right _ (List.mem_singleton.mpr rfl), rfl⟩
  · simp only [Classical.not_forall, Classical.not_not] at hjoin
    obtain ⟨x, hx, hk⟩ := hjoin
    have hany : ∃ q ∈ s.line.queue, QueuedFrame.hasKind f.kind q = true := ⟨x, hx, (hasKind_iff _ _).mpr hk⟩
    obtain ⟨q, before, after, hq, hl, hb⟩ : ∃ q before after, q.frame.kind = f.kind ∧
        s.line.queue = before ++ q :: after ∧ ∀ y ∈ before, y.frame.kind ≠ f.kind := by
      obtain ⟨q, hfind⟩ := Option.isSome_iff_exists.mp (List.find?_isSome.mpr hany)
      obtain ⟨hq, before, after, hl, hb⟩ := List.find?_eq_some_iff_append.mp hfind
      refine ⟨q, before, after, (hasKind_iff _ _).mp hq, hl, fun y hy hyk => ?_⟩
      have := hb y hy
      rw [(hasKind_iff _ _).mpr hyk] at this
      exact absurd this (by decide)
    have hwire : q.onWire = false := h.idle q (by rw [hl]; simp) (hq.trans hf)
    refine ⟨_, (offer_coalesces (by rw [hf]; rfl) hl hq hb).trans (if_neg (ne_true_of_eq_false hwire)),
      ⟨h.active, .inr ?_, ?_⟩, ?_⟩
    · exact ⟨_, List.mem_append_right _ List.mem_cons_self, hf⟩
    · intro y hy hyk
      obtain hy | hy := List.mem_append.mp hy
      · exact h.idle y (by rw [hl]; exact List.mem_append_left _ hy) hyk
      · obtain rfl | hy := List.mem_cons.mp hy
        · exact hwire
        · exact h.idle y (by rw [hl]; exact List.mem_append_right _ (List.mem_cons_of_mem _ hy)) hyk
    · exact ⟨_, List.mem_append_right _ List.mem_cons_self, rfl⟩

/-- What a DRAWN handed over since says: the totals are reported, and where the queue could take it, it is there with
the total, and with the dribble flag `d` unless the quantum is 0, when a second one may follow at once. -/
structure Reported (quantum generation total : Nat) (d : Bool) (l : Line) (t : State) : Prop where
  totals : t.drawn = ⟨total, total, false⟩
  store  : t.store.generation = generation
  queued : TakesDrawn l → TakesDrawn t.line ∧ ∃ q ∈ t.line.queue, ∃ a b e,
    q.frame = .drawn generation total a b e ∧ (0 < quantum → e = d)

/-- Totals and line as they were, or a DRAWN handed over since. -/
inductive Told (quantum : Nat) (s t : State) : Prop
  | still (drawn : t.drawn = s.drawn) (line : t.line = s.line) (store : t.store = s.store)
  | reported (h : Reported quantum s.store.generation s.drawn.cumulative s.drawn.dribble s.line t)

theorem formDrawn_reported {quantum : Nat} {s t : State} (hd : t.drawn = s.drawn) (hl : t.line = s.line)
    (hs : t.store = s.store) :
    Reported quantum s.store.generation s.drawn.cumulative s.drawn.dribble s.line t.formDrawn := by
  refine ⟨?_, ?_, fun h => ?_⟩
  · refine (handOver_beside _ _).drawn.trans ?_
    show DrawTotals.mk _ _ _ = _
    rw [hd]
  · exact congrArg Store.generation ((outer_store (formDrawn_outer t)).trans hs)
  · have htakes : TakesDrawn (t.setDrawn { t.drawn with reported := t.drawn.cumulative, dribble := false }).line :=
      hl ▸ h
    have hform : t.formDrawn = (t.setDrawn { t.drawn with reported := t.drawn.cumulative, dribble := false }).enqueue
        (.drawn t.store.generation t.drawn.cumulative t.gates.a.state.running t.gates.b.state.running t.drawn.dribble) :=
      handOver_taken (.inl htakes.active)
    obtain ⟨hnext, q, hq, hf⟩ := enqueue_drawn (f := .drawn t.store.generation t.drawn.cumulative
      t.gates.a.state.running t.gates.b.state.running t.drawn.dribble) rfl htakes
    rw [hform]
    refine ⟨hnext, q, hq, _, _, _, hf.trans (by rw [hs, hd]), fun _ => rfl⟩

theorem Told.formDrawnIfAdvanced {quantum : Nat} {s t : State} (h : Told quantum s t) :
    Told quantum s t.formDrawnIfAdvanced := by
  unfold State.formDrawnIfAdvanced
  split
  next hadv =>
    cases h with
    | still hd hl hs => exact .reported (formDrawn_reported hd hl hs)
    | reported hr => rw [hr.totals] at hadv; exact absurd hadv (Nat.lt_irrefl _)
  · exact h

/-! ## The end of a draw at one gate -/

/-- What standing or ending with cause `c` makes of gate `g`. -/
structure GateEnds (c : Option EndCause) (g : Gate) (s t : State) : Prop where
  mass  : (t.gate g).mass = (s.gate g).mass
  stays : c = none ∨ ¬(s.gate g).Drawing →
    t.gate g = s.gate g ∧ t.watch.windows.get g = s.watch.windows.get g
  ends  : ∀ x, c = some x → (s.gate g).Drawing →
    (t.gate g).state.drawing = false ∧
    (∀ r, (s.gate g).record = some r → ∃ r', (t.gate g).record = some r' ∧ r'.endCause = some x) ∧
    t.watch.windows.get g =
      if (s.gate g).state = .opened then ⟨⟨false, 0⟩, 0⟩ else s.watch.windows.get g

/-- Gate and window stand. -/
def GateSame (g : Gate) (s t : State) : Prop :=
  t.gate g = s.gate g ∧ t.watch.windows.get g = s.watch.windows.get g

theorem GateEnds.then {c : Option EndCause} {g : Gate} {s t u : State} (h : GateEnds c g s t) (k : GateSame g t u) :
    GateEnds c g s u := by
  obtain ⟨hg, hw⟩ := k
  refine ⟨by rw [hg]; exact h.mass, fun hc => ?_, fun x hx hd => ?_⟩
  · rw [hg, hw]; exact h.stays hc
  · rw [hg, hw]; exact h.ends x hx hd

theorem GateSame.then {c : Option EndCause} {g : Gate} {s t u : State} (k : GateSame g s t) (h : GateEnds c g t u) :
    GateEnds c g s u := by
  obtain ⟨hg, hw⟩ := k
  refine ⟨by rw [← hg]; exact h.mass, fun hc => ?_, fun x hx hd => ?_⟩
  · rw [← hg] at hc ⊢; rw [← hw]; exact h.stays hc
  · rw [← hg] at hd ⊢; rw [← hw]; exact h.ends x hx hd

theorem windowLeft_get (g : Gate) (s : State) :
    (windowLeft g s).windows.get g = if (s.gate g).state = .opened then ⟨⟨false, 0⟩, 0⟩ else s.watch.windows.get g := by
  unfold windowLeft
  split
  · exact PerGate.get_modify_same g _ _
  · rfl

theorem otherGate_ne (g : Gate) : otherGate g ≠ g := by cases g <;> nofun

theorem windowLeft_get_other (g : Gate) (s : State) :
    (windowLeft g s).windows.get (otherGate g) = s.watch.windows.get (otherGate g) := by
  unfold windowLeft
  split
  · exact PerGate.get_modify_other (otherGate_ne g) _ _
  · rfl

/-- A draw that has ended: its gate's sequencer by `f`, its window left, and the rest of the draw's end. -/
theorem drawEnded_gate (cause : EndCause) (g : Gate) (s : State) :
    ∃ f : GateSeq → GateSeq, (f = closedAfter cause s.time ∨ f = closingAfter cause (s.prof.strokeLimit * 1000)) ∧
      (drawEnded cause g s).gates = s.gates.modify g f ∧
      (drawEnded cause g s).watch.windows = (windowLeft g s).windows := by
  unfold drawEnded
  split
  · have h := drawCompleted_completed (s.gate g).wetRestricted
      { s with gates := s.gates.modify g (closedAfter cause s.time), watch := windowLeft g s }
    exact ⟨_, .inl rfl, h.gates, h.windows⟩
  · exact ⟨_, .inr rfl, rfl, rfl⟩

theorem closedAfter_record (cause : EndCause) (time : Nat) {q : GateSeq} {r : DrawRecord} (h : q.record = some r) :
    ∃ r', (closedAfter cause time q).record = some r' ∧ r'.endCause = some cause :=
  ⟨_, congrArg (Option.map _) h, rfl⟩

theorem closingAfter_record (cause : EndCause) (ms : Nat) {q : GateSeq} {r : DrawRecord} (h : q.record = some r) :
    ∃ r', (closingAfter cause ms q).record = some r' ∧ r'.endCause = some cause :=
  ⟨_, congrArg (Option.map _) h, rfl⟩

theorem endDraw_gate {g : Gate} {s : State} (hd : (s.gate g).Drawing) (cause : EndCause) :
    GateEnds (some cause) g s (s.endDraw cause g) ∧ GateSame (otherGate g) s (s.endDraw cause g) := by
  obtain ⟨f, hf, hgates, hwindows⟩ := drawEnded_gate cause g s
  rw [endDraw_eq hd]
  have hgate : (drawEnded cause g s).gate g = f (s.gate g) :=
    (congrArg (PerGate.get g) hgates).trans (PerGate.get_modify_same g f s.gates)
  have hother : (drawEnded cause g s).gate (otherGate g) = s.gate (otherGate g) :=
    (congrArg (PerGate.get (otherGate g)) hgates).trans (PerGate.get_modify_other (otherGate_ne g) f s.gates)
  refine ⟨⟨?_, fun h => (h.resolve_left nofun hd).elim, fun x hx _ => ?_⟩, hother, ?_⟩
  · rw [hgate]
    obtain rfl | rfl := hf <;> rfl
  · obtain rfl := Option.some.inj hx
    rw [hgate, hwindows]
    refine ⟨?_, fun r hr => ?_, windowLeft_get g s⟩
    · obtain rfl | rfl := hf <;> rfl
    · obtain rfl | rfl := hf
      · exact closedAfter_record cause _ hr
      · exact closingAfter_record cause _ hr
  · rw [hwindows]; exact windowLeft_get_other g s

theorem endDrawIf_stays {c : Option EndCause} {g : Gate} {s : State} (h : c = none ∨ ¬(s.gate g).Drawing) :
    s.endDrawIf c g = s := by
  cases c with
  | none => rfl
  | some x => exact endDraw_not_drawing (h.resolve_left nofun) x

theorem endDrawIf_gate (c : Option EndCause) (g : Gate) (s : State) :
    GateEnds c g s (s.endDrawIf c g) ∧ GateSame (otherGate g) s (s.endDrawIf c g) := by
  by_cases h : c = none ∨ ¬(s.gate g).Drawing
  · rw [endDrawIf_stays h]
    refine ⟨⟨rfl, fun _ => ⟨rfl, rfl⟩, fun x hx hd => ?_⟩, rfl, rfl⟩
    exact (h.resolve_left (by rw [hx]; nofun) hd).elim
  · obtain ⟨hc, hd⟩ := not_or.mp h
    obtain ⟨x, rfl⟩ := Option.ne_none_iff_exists'.mp hc
    exact endDraw_gate (Classical.not_not.mp hd) x

/-! ## What the end of a draw leaves beside the gates -/

/-- Everything apart and the pending kinds stand, and the queue is still without the tip sequencer's frames. -/
structure Ended (s t : State) : Prop where
  apart    : t.apart = s.apart
  untipped : t.line.Untipped
  pending  : ∀ k, s.isPending k = true → t.isPending k = true

theorem Ended.refl {s : State} (h : s.line.Untipped) : Ended s s := ⟨rfl, h, fun _ => id⟩

theorem Ended.trans {s t u : State} (h : Ended s t) (k : Ended t u) : Ended s u :=
  ⟨k.apart.trans h.apart, k.untipped, fun x => k.pending x ∘ h.pending x⟩

theorem formDrawn_ended {s : State} (h : s.line.Untipped) : Ended s s.formDrawn := by
  obtain ⟨l, hl, he⟩ := formDrawn_eq h
  rw [he]
  exact ⟨rfl, hl, fun _ => id⟩

theorem formDrawnIfAdvanced_ended {s : State} (h : s.line.Untipped) : Ended s s.formDrawnIfAdvanced := by
  unfold State.formDrawnIfAdvanced
  split
  · exact formDrawn_ended h
  · exact .refl h

theorem formDrawnAtQuantum_ended {s : State} (h : s.line.Untipped) : Ended s s.formDrawnAtQuantum := by
  unfold State.formDrawnAtQuantum
  split
  · exact formDrawn_ended h
  · exact .refl h

/-- A draw completed, up to its DRAWN. -/
def drawOver (wet : Bool) (s : State) : State :=
  State.mark .drawEnd
    (if wet = true then { s with watch := { s.watch with wetRest := ⟨true, s.prof.wetRest * 1000⟩ } } else s)

theorem drawCompleted_drawOver (wet : Bool) (s : State) :
    drawCompleted wet s = (drawOver wet s).formDrawnIfAdvanced := rfl

theorem drawOver_keeps (wet : Bool) (s : State) :
    (drawOver wet s).apart = s.apart ∧ (drawOver wet s).line = s.line ∧ (drawOver wet s).drawn = s.drawn ∧
    (drawOver wet s).store = s.store ∧ ∀ k, s.isPending k = true → (drawOver wet s).isPending k = true := by
  cases wet with
  | true => exact ⟨rfl, rfl, rfl, rfl, (mark_beside .drawEnd (s.setWatch _)).pending⟩
  | false => exact ⟨rfl, rfl, rfl, rfl, (mark_beside .drawEnd s).pending⟩

theorem windowLeft_wet (g : Gate) (s : State) : (windowLeft g s).wet = s.watch.wet := by
  unfold windowLeft
  split <;> rfl

theorem apart_windowLeft (gates : PerGate GateSeq) (g : Gate) (s : State) :
    ({ s with gates := gates, watch := windowLeft g s } : State).apart = s.apart := by
  simp only [State.apart, windowLeft_wet]

theorem endDrawIf_ended (c : Option EndCause) (g : Gate) {s : State} (h : s.line.Untipped) :
    Ended s (s.endDrawIf c g) := by
  by_cases hstays : c = none ∨ ¬(s.gate g).Drawing
  · rw [endDrawIf_stays hstays]; exact .refl h
  · obtain ⟨hc, hd⟩ := not_or.mp hstays
    obtain ⟨x, rfl⟩ := Option.ne_none_iff_exists'.mp hc
    show Ended s (s.endDraw x g)
    rw [endDraw_eq (Classical.not_not.mp hd), drawEnded]
    split
    · obtain ⟨hapart, hline, -, -, hpending⟩ := drawOver_keeps (s.gate g).wetRestricted
        { s with gates := s.gates.modify g (closedAfter x s.time), watch := windowLeft g s }
      have hover : Ended s (drawOver (s.gate g).wetRestricted
          { s with gates := s.gates.modify g (closedAfter x s.time), watch := windowLeft g s }) :=
        ⟨hapart.trans (apart_windowLeft _ g s), by rw [hline]; exact h, hpending⟩
      exact hover.trans (formDrawnIfAdvanced_ended hover.untipped)
    · exact ⟨apart_windowLeft _ g s, h, fun _ => id⟩

theorem Told.through {quantum : Nat} {s t u : State} (h : Told quantum s t) (hd : u.drawn = t.drawn)
    (hl : u.line = t.line) (hs : u.store = t.store) : Told quantum s u := by
  cases h with
  | still kd kl ks => exact .still (hd.trans kd) (hl.trans kl) (hs.trans ks)
  | reported k => exact .reported ⟨hd.trans k.totals, (congrArg Store.generation hs).trans k.store,
      fun ht => by rw [hl]; exact k.queued ht⟩

theorem Told.endDrawIf {quantum : Nat} {s t : State} (h : Told quantum s t) (c : Option EndCause) (g : Gate) :
    Told quantum s (t.endDrawIf c g) := by
  by_cases hstays : c = none ∨ ¬(t.gate g).Drawing
  · rw [endDrawIf_stays hstays]; exact h
  · obtain ⟨hc, hd⟩ := not_or.mp hstays
    obtain ⟨x, rfl⟩ := Option.ne_none_iff_exists'.mp hc
    show Told quantum s (t.endDraw x g)
    rw [endDraw_eq (Classical.not_not.mp hd), drawEnded]
    split
    · obtain ⟨-, hline, hdrawn, hstore, -⟩ := drawOver_keeps (t.gate g).wetRestricted
        { t with gates := t.gates.modify g (closedAfter x t.time), watch := windowLeft g t }
      exact (h.through hdrawn hline hstore).formDrawnIfAdvanced
    · exact h.through rfl rfl rfl

/-- At the report quantum a DRAWN has gone, whether a draw's end formed it or the pulse. -/
theorem Told.formDrawnAtQuantum {s t : State} {quantum : Nat} (h : Told quantum s t) (hq : t.prof.reportQuantum = quantum)
    (hmet : s.drawn.reported + quantum ≤ s.drawn.cumulative) :
    Reported quantum s.store.generation s.drawn.cumulative s.drawn.dribble s.line t.formDrawnAtQuantum := by
  unfold State.formDrawnAtQuantum
  rw [hq]
  cases h with
  | still hd hl hs =>
    rw [if_pos (by rw [hd]; exact hmet)]
    exact formDrawn_reported hd hl hs
  | reported hr =>
    split
    next hagain =>
      rw [hr.totals] at hagain
      obtain rfl : quantum = 0 := Nat.le_zero.mp (Nat.le_of_add_le_add_left hagain)
      obtain ⟨htotals, hstore, hqueued⟩ := formDrawn_reported (quantum := 0) (s := t) (t := t) rfl rfl rfl
      refine ⟨htotals.trans (by rw [hr.totals]), hstore.trans hr.store, fun hl => ?_⟩
      obtain ⟨hnext, q, hq, a, b, e, hf, -⟩ := hqueued (hr.queued hl).1
      refine ⟨hnext, q, hq, a, b, e, hf.trans (by rw [hr.totals, hr.store]), nofun⟩
    next => exact hr

theorem formDrawnAtQuantum_below {s : State} (h : s.drawn.cumulative < s.drawn.reported + s.prof.reportQuantum) :
    s.formDrawnAtQuantum = s := if_neg (Nat.not_le.mpr h)

/-! ## The pulse counted (R48, R123, R124) -/

/-- Steps 1 and 2 of R123. -/
def counted (g : Gate) (s : State) : State := s.addDrawnMass.pulseToGate g

/-- The sequencer of the pulse's gate. -/
def pulseOn (quantum : Nat) (q : GateSeq) : GateSeq :=
  if q.state.running = true then GateSeq.addMass quantum q
  else { q with dribble := { q.dribble with raised := true } }

/-- What steps 1 and 2 leave. -/
structure Counted (g : Gate) (s t : State) : Prop where
  gates   : t.gates = s.gates.modify g (pulseOn s.prof.weigherQuantum)
  drawn   : t.drawn = ⟨min (s.drawn.cumulative + s.prof.weigherQuantum) 4294967295, s.drawn.reported,
    s.drawn.dribble || !(s.gate g).state.running⟩
  window  : t.watch.windows.get g = if (s.gate g).state = .opened then
      ⟨(s.watch.windows.get g).timer, (s.watch.windows.get g).count + s.prof.weigherQuantum⟩
    else s.watch.windows.get g
  wet     : t.watch.wet = s.watch.wet
  column  : t.column = if (s.gate g).state.running = true ∨ (s.gate g).dribble.raised = true then s.column
    else { s.column with lastReason := some .dribble }
  line    : t.line = s.line
  remote  : t.remote = s.remote
  pending : ∀ k, s.isPending k = true → t.isPending k = true
  dribble : (s.gate g).state.running = false → (s.gate g).dribble.raised = false → t.isPending .model = true

theorem setDrawn_remote (d : DrawTotals) (s : State) : (s.setDrawn d).remote = s.remote := rfl
theorem updateGate_remote (g : Gate) (f : GateSeq → GateSeq) (s : State) : (s.updateGate g f).remote = s.remote := rfl
theorem modelEvent_remote (r : ModelReason) (s : State) : (s.modelEvent r).remote = s.remote := rfl

theorem counted_running {g : Gate} {s : State} (h : (s.gate g).state.running = true) :
    counted g s = (s.addDrawnMass.updateGate g (GateSeq.addMass s.prof.weigherQuantum)).countWindow g := if_pos h

theorem addMass_running {quantum : Nat} {q : GateSeq} (h : q.state.running = true) :
    GateSeq.addMass quantum q = pulseOn quantum q := (if_pos h).symm

theorem counted_of_running {g : Gate} {s : State} (h : (s.gate g).state.running = true) : Counted g s (counted g s) := by
  have hgate : (s.addDrawnMass.updateGate g (GateSeq.addMass s.prof.weigherQuantum)).gate g =
      GateSeq.addMass s.prof.weigherQuantum (s.gate g) := PerGate.get_modify_same g _ s.gates
  have hgates : s.gates.modify g (GateSeq.addMass s.prof.weigherQuantum) =
      s.gates.modify g (pulseOn s.prof.weigherQuantum) := PerGate.modify_congr (addMass_running h)
  have hbase : counted g s = if (s.gate g).state = .opened then
      (s.addDrawnMass.updateGate g (GateSeq.addMass s.prof.weigherQuantum)).setWindow g
        { s.watch.windows.get g with count := (s.watch.windows.get g).count + s.prof.weigherQuantum }
      else s.addDrawnMass.updateGate g (GateSeq.addMass s.prof.weigherQuantum) := by
    rw [counted_running h, State.countWindow, hgate]
    rfl
  have hcolumn : ((s.gate g).state.running = true ∨ (s.gate g).dribble.raised = true) := .inl h
  rw [hbase]
  by_cases ho : (s.gate g).state = .opened
  · rw [if_pos ho]
    refine ⟨hgates, ?_, ?_, rfl, (if_pos hcolumn).symm, rfl, rfl, fun _ => id, fun hk => ?_⟩
    · rw [h, Bool.not_true, Bool.or_false]; rfl
    · rw [if_pos ho]; exact PerGate.get_modify_same g _ _
    · rw [h] at hk; cases hk
  · rw [if_neg ho]
    refine ⟨hgates, ?_, (if_neg ho).symm, rfl, (if_pos hcolumn).symm, rfl, rfl, fun _ => id, fun hk => ?_⟩
    · rw [h, Bool.not_true, Bool.or_false]; rfl
    · rw [h] at hk; cases hk

/-- A pulse raised in the dribble period. -/
def raiseDribble (q : GateSeq) : GateSeq := { q with dribble := { q.dribble with raised := true } }

theorem raiseDribble_resting {quantum : Nat} {q : GateSeq} (h : q.state.running = false) :
    raiseDribble q = pulseOn quantum q := (if_neg (ne_true_of_eq_false h)).symm

/-- A dribble pulse, up to its event. -/
def dribbled (g : Gate) (s : State) : State :=
  (s.addDrawnMass.setDrawn { s.addDrawnMass.drawn with dribble := true }).updateGate g
    raiseDribble

theorem dribbled_keeps (g : Gate) (s : State) :
    (dribbled g s).watch = s.watch ∧ (dribbled g s).column = s.column ∧ (dribbled g s).line = s.line ∧
    (dribbled g s).remote = s.remote ∧ ∀ k, (dribbled g s).isPending k = s.isPending k :=
  ⟨rfl, rfl, rfl, (updateGate_remote ..).trans ((setDrawn_remote ..).trans (setDrawn_remote ..)), fun _ => rfl⟩

theorem dribbled_drawn (g : Gate) (s : State) : (dribbled g s).drawn =
    ⟨min (s.drawn.cumulative + s.prof.weigherQuantum) 4294967295, s.drawn.reported, true⟩ := rfl

theorem dribbled_gates {g : Gate} {s : State} (h : (s.gate g).state.running = false) :
    (dribbled g s).gates = s.gates.modify g (pulseOn s.prof.weigherQuantum) :=
  PerGate.modify_congr (p := s.gates) (raiseDribble_resting h)

theorem counted_resting {g : Gate} {s : State} (h : (s.gate g).state.running = false) :
    counted g s = if (s.gate g).dribble.raised = true then dribbled g s else (dribbled g s).modelEvent .dribble :=
  if_neg (ne_true_of_eq_false h)

theorem counted_of_resting {g : Gate} {s : State} (h : (s.gate g).state.running = false) : Counted g s (counted g s) := by
  have hopened : (s.gate g).state ≠ .opened := fun ho => by rw [ho] at h; cases h
  have hflag : (s.drawn.dribble || !(s.gate g).state.running) = true := by rw [h]; exact Bool.or_true _
  have hgates := dribbled_gates h
  have hdrawn := dribbled_drawn g s
  obtain ⟨hwatch, hcolumn, hline, hremote, hpending⟩ := dribbled_keeps g s
  rw [counted_resting h]
  generalize dribbled g s = u at hgates hdrawn hwatch hcolumn hline hremote hpending ⊢
  by_cases hraised : (s.gate g).dribble.raised = true
  · rw [if_pos hraised]
    refine ⟨hgates, by rw [hflag]; exact hdrawn, by rw [if_neg hopened, hwatch], by rw [hwatch],
      by rw [if_pos (.inr hraised), hcolumn], hline, hremote, fun k hk => (hpending k).trans hk, fun _ hk => ?_⟩
    rw [hraised] at hk; cases hk
  · have hmarked := modelEvent_beside .dribble u
    rw [if_neg hraised]
    refine ⟨hmarked.gates.trans hgates, hmarked.drawn.trans (by rw [hflag]; exact hdrawn), ?_, congrArg Watch.wet hwatch,
      ?_, hline, (modelEvent_remote .dribble u).trans hremote, fun k hk => hmarked.pending k ((hpending k).trans hk),
      fun _ _ => isPending_mark_self _ _⟩
    · rw [if_neg hopened, hmarked.windows, hwatch]
    · rw [if_neg (not_or.mpr ⟨ne_true_of_eq_false h, hraised⟩), ← hcolumn]; rfl

theorem counted_counted (g : Gate) (s : State) : Counted g s (counted g s) := by
  cases h : (s.gate g).state.running with
  | true => exact counted_of_running h
  | false => exact counted_of_resting h

end Sys2Proof.Machine
end

section
/-! A weigher pulse (R123 to R125), step by step: the pulse counted, the column, the causes, the DRAWN. -/

namespace Sys2Proof.Machine

/-! ## The column gives up the drawn volume (R27, R123 step 3) -/

theorem evaluateWet_remote (s : State) : s.evaluateWet.remote = s.remote := by
  unfold State.evaluateWet
  split <;> rfl

theorem setColumn_remote (c : Column) (s : State) : (s.setColumn c).remote = s.remote := by
  unfold State.setColumn
  split
  · rfl
  · exact evaluateWet_remote _

/-- What an increment drawn leaves. -/
structure Increment (mass : Nat) (s t : State) : Prop extends Beside s t where
  line     : t.line = s.line
  remote   : t.remote = s.remote
  segments : t.column.segments = if s.column.seeded = true ∧ mass ≠ 0 then
    takeVolume s.column.segments ((mass * 10000 + s.column.remainder) / s.prof.density) else s.column.segments
  reason   : t.column.lastReason = if s.column.seeded = true ∧ mass ≠ 0 ∧
      s.columnVolume < (mass * 10000 + s.column.remainder) / s.prof.density then some .underrun
    else s.column.lastReason

theorem drawIncrement_increment (mass : Nat) (s : State) : Increment mass s (s.drawIncrement mass) := by
  by_cases h : s.column.seeded = true ∧ mass ≠ 0
  · have hcolumn := setColumn_column (s.column.afterDraw s.prof.density mass) s
    have hbeside := setColumn_beside (s.column.afterDraw s.prof.density mass) s
    by_cases hv : (mass * 10000 + s.column.remainder) / s.prof.density ≤ s.columnVolume
    · have hreason : (s.column.afterDraw s.prof.density mass).lastReason = s.column.lastReason := by
        rw [afterDraw_covered hv]
      rw [drawIncrement_covered h.1 h.2 hv]
      refine ⟨hbeside, setColumn_line _ s, setColumn_remote _ s, ?_, ?_⟩
      · rw [hcolumn, if_pos h, afterDraw_segments]; rfl
      · rw [hcolumn, hreason, if_neg fun hk => Nat.not_le.mpr hk.2.2 hv]
    · rw [drawIncrement_underrun h.1 h.2 hv]
      refine ⟨hbeside.trans (modelEvent_beside _ _), setColumn_line _ s, setColumn_remote _ s, ?_, ?_⟩
      · rw [if_pos h]
        show (s.setColumn _).column.segments = _
        rw [hcolumn, afterDraw_segments]; rfl
      · exact (if_pos ⟨h.1, h.2, Nat.not_le.mp hv⟩).symm
  · have hnone : s.drawIncrement mass = s := by
      by_cases hs : s.column.seeded = true
      · rw [Classical.not_not.mp fun hm => h ⟨hs, hm⟩]; exact drawIncrement_zero s
      · exact drawIncrement_unseeded (Bool.eq_false_iff.mpr hs) mass
    rw [hnone]
    exact ⟨.refl s, rfl, rfl, (if_neg h).symm, (if_neg fun hk => h ⟨hk.1, hk.2.1⟩).symm⟩

/-! ## Before the causes are taken -/

/-- What a pulse and a new wet status leave of a sequencer that its draw's end is decided by. -/
structure GateKept (p q : GateSeq) : Prop where
  state   : q.state = p.state
  mode    : q.mode = p.mode
  dribble : q.dribble = p.dribble
  cap     : ∀ c, p.wetCap = some c → q.wetCap = some c
  record  : ∀ r, p.record = some r → ∃ r', q.record = some r'

theorem wetToldToGate_kept (status : WetStatus) (limit : Nat) (q : GateSeq) : GateKept q (wetToldToGate status limit q) := by
  unfold wetToldToGate
  dsimp only
  split
  · exact ⟨rfl, rfl, rfl, fun _ => id, fun r hr => ⟨_, congrArg (Option.map _) hr⟩⟩
  · split
    next h =>
      refine ⟨rfl, rfl, rfl, fun c hc => ?_, fun r hr => ⟨_, congrArg (Option.map _) hr⟩⟩
      rw [h.2.2] at hc
      cases hc
    next => exact ⟨rfl, rfl, rfl, fun _ => id, fun r hr => ⟨r, hr⟩⟩

theorem wetTold_kept (before s : State) (x : Gate) : GateKept (s.gate x) ((wetTold before s).gate x) := by
  unfold wetTold
  split
  · cases x <;> exact wetToldToGate_kept _ _ _
  · exact ⟨rfl, rfl, rfl, fun _ => id, fun r hr => ⟨r, hr⟩⟩

theorem wetTold_stands (before s : State) :
    (wetTold before s).drawn = s.drawn ∧ (wetTold before s).line = s.line ∧ (wetTold before s).remote = s.remote ∧
    ∀ k, (wetTold before s).isPending k = s.isPending k := by
  unfold wetTold
  split <;> exact ⟨rfl, rfl, rfl, fun _ => rfl⟩

/-- The state of a pulse before any cause is taken (R123 steps 1 to 3, R53). -/
def pulseTold (g : Gate) (s : State) : State := wetTold s ((counted g s).drawIncrement s.prof.weigherQuantum)

theorem prof_of_remote {s t : State} (h : t.remote = s.remote) : t.prof = s.prof := by
  have := congrArg (fun x : State => x.prof) h
  exact this

section
variable (g : Gate) (s : State)

theorem pulseTold_kept (x : Gate) :
    GateKept ((counted g s).gate x) ((pulseTold g s).gate x) ∧
    ((pulseTold g s).gate x).mass = ((counted g s).gate x).mass := by
  have hinc := drawIncrement_increment s.prof.weigherQuantum (counted g s)
  have hgate : ((counted g s).drawIncrement s.prof.weigherQuantum).gate x = (counted g s).gate x :=
    congrArg (PerGate.get x) hinc.gates
  obtain ⟨-, -, -, hmass⟩ := wetTold_rest s ((counted g s).drawIncrement s.prof.weigherQuantum)
  rw [← hgate]
  exact ⟨wetTold_kept _ _ x, hmass x⟩

theorem counted_gate : (counted g s).gate g = pulseOn s.prof.weigherQuantum (s.gate g) :=
  (congrArg (PerGate.get g) (counted_counted g s).gates).trans (PerGate.get_modify_same g _ _)

theorem counted_gate_other {x : Gate} (h : x ≠ g) : (counted g s).gate x = s.gate x :=
  (congrArg (PerGate.get x) (counted_counted g s).gates).trans (PerGate.get_modify_other h _ _)

theorem pulseOn_keeps (quantum : Nat) (q : GateSeq) :
    (pulseOn quantum q).state = q.state ∧ (pulseOn quantum q).mode = q.mode ∧
    (pulseOn quantum q).wetCap = q.wetCap ∧
    ∀ r, q.record = some r → ∃ r', (pulseOn quantum q).record = some r' := by
  unfold pulseOn
  split
  · exact ⟨rfl, rfl, rfl, fun r hr => ⟨_, congrArg (Option.map _) hr⟩⟩
  · exact ⟨rfl, rfl, rfl, fun r hr => ⟨r, hr⟩⟩

theorem counted_gate_keeps (x : Gate) :
    ((counted g s).gate x).state = (s.gate x).state ∧ ((counted g s).gate x).mode = (s.gate x).mode ∧
    ((counted g s).gate x).wetCap = (s.gate x).wetCap ∧
    ∀ r, (s.gate x).record = some r → ∃ r', ((counted g s).gate x).record = some r' := by
  by_cases hx : x = g
  · subst hx
    rw [counted_gate]
    exact pulseOn_keeps _ _
  · rw [counted_gate_other g s hx]
    exact ⟨rfl, rfl, rfl, fun r hr => ⟨r, hr⟩⟩

theorem pulseTold_state (x : Gate) : ((pulseTold g s).gate x).state = (s.gate x).state :=
  (pulseTold_kept g s x).1.state.trans (counted_gate_keeps g s x).1

theorem pulseTold_mode (x : Gate) : ((pulseTold g s).gate x).mode = (s.gate x).mode :=
  (pulseTold_kept g s x).1.mode.trans (counted_gate_keeps g s x).2.1

theorem pulseTold_cap {x : Gate} {c : Nat} (h : (s.gate x).wetCap = some c) :
    ((pulseTold g s).gate x).wetCap = some c :=
  (pulseTold_kept g s x).1.cap c ((counted_gate_keeps g s x).2.2.1.trans h)

theorem pulseTold_record {x : Gate} {r : DrawRecord} (h : (s.gate x).record = some r) :
    ∃ r', ((pulseTold g s).gate x).record = some r' := by
  obtain ⟨-, -, -, hrecord⟩ := counted_gate_keeps g s x
  obtain ⟨r', hr'⟩ := hrecord r h
  exact (pulseTold_kept g s x).1.record r' hr'

theorem pulseTold_mass_running (h : (s.gate g).state.running = true) :
    ((pulseTold g s).gate g).mass = min ((s.gate g).mass + s.prof.weigherQuantum) 4294967295 := by
  rw [(pulseTold_kept g s g).2, counted_gate, pulseOn, if_pos h]
  rfl

theorem pulseTold_mass_resting (h : (s.gate g).state.running = false) :
    ((pulseTold g s).gate g).mass = (s.gate g).mass := by
  rw [(pulseTold_kept g s g).2, counted_gate, pulseOn, if_neg (ne_true_of_eq_false h)]

theorem pulseTold_mass_other {x : Gate} (h : x ≠ g) : ((pulseTold g s).gate x).mass = (s.gate x).mass := by
  rw [(pulseTold_kept g s x).2, counted_gate_other g s h]

theorem pulseTold_dribble (h : (s.gate g).state.running = false) :
    ((pulseTold g s).gate g).dribble = { (s.gate g).dribble with raised := true } := by
  rw [(pulseTold_kept g s g).1.dribble, counted_gate, pulseOn, if_neg (ne_true_of_eq_false h)]

theorem pulseTold_remote : (pulseTold g s).remote = s.remote := by
  obtain ⟨-, -, htold, -⟩ := wetTold_stands s ((counted g s).drawIncrement s.prof.weigherQuantum)
  exact htold.trans ((drawIncrement_increment _ _).remote.trans (counted_counted g s).remote)

theorem pulseTold_line : (pulseTold g s).line = s.line := by
  obtain ⟨-, htold, -, -⟩ := wetTold_stands s ((counted g s).drawIncrement s.prof.weigherQuantum)
  exact htold.trans ((drawIncrement_increment _ _).line.trans (counted_counted g s).line)

theorem pulseTold_drawn : (pulseTold g s).drawn =
    ⟨min (s.drawn.cumulative + s.prof.weigherQuantum) 4294967295, s.drawn.reported,
      s.drawn.dribble || !(s.gate g).state.running⟩ := by
  obtain ⟨htold, -, -, -⟩ := wetTold_stands s ((counted g s).drawIncrement s.prof.weigherQuantum)
  exact htold.trans ((drawIncrement_increment _ _).drawn.trans (counted_counted g s).drawn)

theorem pulseTold_window : (pulseTold g s).watch.windows.get g = if (s.gate g).state = .opened then
      ⟨(s.watch.windows.get g).timer, (s.watch.windows.get g).count + s.prof.weigherQuantum⟩
    else s.watch.windows.get g := by
  obtain ⟨-, htold, -, -⟩ := wetTold_rest s ((counted g s).drawIncrement s.prof.weigherQuantum)
  rw [← (counted_counted g s).window]
  exact congrArg (PerGate.get g) ((congrArg Watch.windows htold).trans (drawIncrement_increment _ _).windows)

theorem counted_segments : (counted g s).column.segments = s.column.segments ∧
    (counted g s).column.seeded = s.column.seeded ∧ (counted g s).column.remainder = s.column.remainder := by
  rw [(counted_counted g s).column]
  split <;> exact ⟨rfl, rfl, rfl⟩

theorem pulseTold_column :
    (pulseTold g s).column = ((counted g s).drawIncrement s.prof.weigherQuantum).column :=
  (wetTold_rest s _).1

theorem pulseTold_segments : (pulseTold g s).column.segments =
    if s.column.seeded = true ∧ s.prof.weigherQuantum ≠ 0 then takeVolume s.column.segments
      ((s.prof.weigherQuantum * 10000 + s.column.remainder) / s.prof.density) else s.column.segments := by
  obtain ⟨hsegments, hseeded, hremainder⟩ := counted_segments g s
  rw [pulseTold_column, (drawIncrement_increment _ _).segments, hsegments, hseeded, hremainder,
    prof_of_remote (counted_counted g s).remote]

theorem counted_columnVolume : (counted g s).columnVolume = s.columnVolume :=
  congrArg totalVolume (counted_segments g s).1

/-- The MODEL event of a dribble pulse, and its reason: the first of its period says so, unless the column ran short. -/
theorem pulseTold_model (h : (s.gate g).state.running = false) (hraised : (s.gate g).dribble.raised = false) :
    (pulseTold g s).isPending .model = true ∧ (pulseTold g s).column.lastReason =
      some (if s.column.seeded = true ∧ s.prof.weigherQuantum ≠ 0 ∧ s.columnVolume <
        (s.prof.weigherQuantum * 10000 + s.column.remainder) / s.prof.density then .underrun else .dribble) := by
  have hinc := drawIncrement_increment s.prof.weigherQuantum (counted g s)
  obtain ⟨-, -, -, htold⟩ := wetTold_stands s ((counted g s).drawIncrement s.prof.weigherQuantum)
  obtain ⟨-, hseeded, hremainder⟩ := counted_segments g s
  have hreason : (counted g s).column.lastReason = some .dribble := by
    rw [(counted_counted g s).column, if_neg (not_or.mpr ⟨ne_true_of_eq_false h, ne_true_of_eq_false hraised⟩)]
  refine ⟨(htold .model).trans (hinc.pending _ ((counted_counted g s).dribble h hraised)), ?_⟩
  rw [pulseTold_column, hinc.reason, hseeded, hremainder, prof_of_remote (counted_counted g s).remote,
    counted_columnVolume, hreason]
  split <;> rfl

end

/-! ## The causes taken, and the DRAWN -/

/-- A pulse after its causes have been taken (R123 step 4). -/
def pulseEnded (g : Gate) (s : State) : State :=
  ((pulseTold g s).endDrawIf ((pulseTold g s).causeAtPulse s g .a) .a).endDrawIf
    ((pulseTold g s).causeAtPulse s g .b) .b

theorem pulse_eq (g : Gate) (s : State) : s.pulse g = (pulseEnded g s).formDrawnAtQuantum := by
  rw [State.pulse, noteWet_eq]
  rfl

theorem formDrawnAtQuantum_same (x : Gate) (s : State) : GateSame x s s.formDrawnAtQuantum := by
  unfold State.formDrawnAtQuantum
  split
  · have hform := handOver_beside (.drawn s.store.generation s.drawn.cumulative s.gates.a.state.running
      s.gates.b.state.running s.drawn.dribble)
      (s.setDrawn { s.drawn with reported := s.drawn.cumulative, dribble := false })
    exact ⟨congrArg (PerGate.get x) hform.gates, congrArg (PerGate.get x) hform.windows⟩
  · exact ⟨rfl, rfl⟩

theorem pulse_gate (g : Gate) (s : State) (x : Gate) :
    GateEnds ((pulseTold g s).causeAtPulse s g x) x (pulseTold g s) (s.pulse g) := by
  rw [pulse_eq]
  refine GateEnds.then ?_ (formDrawnAtQuantum_same x _)
  cases x with
  | a => exact (endDrawIf_gate _ .a _).1.then (endDrawIf_gate _ .b _).2
  | b => exact GateSame.then (endDrawIf_gate _ .a _).2 (endDrawIf_gate _ .b _).1

section
variable {g : Gate} {s : State} (hq : s.line.Untipped)
include hq

theorem pulseEnded_ended : Ended (pulseTold g s) (pulseEnded g s) := by
  have ha := endDrawIf_ended ((pulseTold g s).causeAtPulse s g .a) .a (s := pulseTold g s)
    (by rw [pulseTold_line]; exact hq)
  exact ha.trans (endDrawIf_ended _ .b ha.untipped)

theorem pulse_ended : Ended (pulseTold g s) (s.pulse g) := by
  rw [pulse_eq]
  exact (pulseEnded_ended hq).trans (formDrawnAtQuantum_ended (pulseEnded_ended hq).untipped)

theorem pulse_column : (s.pulse g).column = (pulseTold g s).column := by
  have := congrArg (fun x : State => x.column) (pulse_ended hq (g := g)).apart
  exact this

theorem pulse_wet : (s.pulse g).watch.wet = (pulseTold g s).watch.wet := by
  have := congrArg (fun x : State => x.watch.wet) (pulse_ended hq (g := g)).apart
  exact this

theorem pulse_remote : (s.pulse g).remote = s.remote :=
  (remote_of_apart (pulse_ended hq).apart).trans (pulseTold_remote g s)

theorem pulse_cumulative :
    (s.pulse g).drawn.cumulative = min (s.drawn.cumulative + s.prof.weigherQuantum) 4294967295 := by
  have hstands := congrArg (fun x : State => x.drawn.cumulative) (pulse_ended hq (g := g)).apart
  exact hstands.trans (congrArg DrawTotals.cumulative (pulseTold_drawn g s))

theorem pulse_segments : (s.pulse g).column.segments =
    if s.column.seeded = true ∧ s.prof.weigherQuantum ≠ 0 then takeVolume s.column.segments
      ((s.prof.weigherQuantum * 10000 + s.column.remainder) / s.prof.density) else s.column.segments := by
  rw [pulse_column hq, pulseTold_segments]

theorem pulse_columnVolume : (s.pulse g).columnVolume = (pulseTold g s).columnVolume :=
  congrArg (fun c : Column => totalVolume c.segments) (pulse_column hq)

end

end Sys2Proof.Machine
end

section
/-! A weigher pulse (R123 to R125): each clause of what it counts, ends and reports. -/

namespace Sys2Proof.Machine

/-! ## The causes at a pulse (R111, R123) -/

theorem massMet_target {q : GateSeq} {target : Nat} (hm : q.mode = some (.batch target)) (h : target ≤ q.mass) :
    massMet q = some .batchDone := by
  rw [massMet, hm]
  exact if_pos (decide_eq_true h)

theorem massMet_below {q : GateSeq} (h : ∀ target, q.mode = some (.batch target) → q.mass < target) :
    massMet q = if (match q.wetCap with | some c => decide (c ≤ q.mass) | none => false) = true then some .wetLimit
      else none := by
  unfold massMet
  dsimp only
  refine if_neg ?_
  split
  next target hm => simpa using h target hm
  all_goals exact nofun

theorem massMet_cap {q : GateSeq} {cap : Nat} (h : ∀ target, q.mode = some (.batch target) → q.mass < target)
    (hc : q.wetCap = some cap) (hm : cap ≤ q.mass) : massMet q = some .wetLimit := by
  rw [massMet_below h, hc]
  exact if_pos (decide_eq_true hm)

theorem massMet_none {q : GateSeq} (h : ∀ target, q.mode = some (.batch target) → q.mass < target)
    (hc : ∀ cap, q.wetCap = some cap → q.mass < cap) : massMet q = none := by
  rw [massMet_below h]
  cases hcap : q.wetCap with
  | none => rfl
  | some cap => exact if_neg (by simpa using hc cap hcap)

section
variable {g : Gate} {s : State}

theorem causeAtPulse_mass {c : EndCause} (ho : (s.gate g).state = .opened)
    (hm : massMet ((pulseTold g s).gate g) = some c) : (pulseTold g s).causeAtPulse s g g = some c := by
  rw [State.causeAtPulse, if_pos rfl, State.pulseCause, if_pos ((pulseTold_state g s g).trans ho), massCause_eq, hm]
  rfl

/-- With the wet status as it was nothing is told, and caps stand. -/
theorem pulseTold_cap_same (hw : (pulseTold g s).watch.wet = s.watch.wet) (x : Gate) :
    ((pulseTold g s).gate x).wetCap = (s.gate x).wetCap := by
  obtain ⟨-, hwatch, -, -⟩ := wetTold_rest s ((counted g s).drawIncrement s.prof.weigherQuantum)
  have hinc := drawIncrement_increment s.prof.weigherQuantum (counted g s)
  have hsame : pulseTold g s = (counted g s).drawIncrement s.prof.weigherQuantum :=
    wetTold_same ((congrArg Watch.wet hwatch).symm.trans hw)
  have hgate : ((counted g s).drawIncrement s.prof.weigherQuantum).gate x = (counted g s).gate x :=
    congrArg (PerGate.get x) hinc.gates
  rw [hsame, hgate]
  exact (counted_gate_keeps g s x).2.2.1

theorem running_of_opened {q : GateSeq} (h : q.state = .opened) : q.state.running = true := by rw [h]; rfl

theorem drawing_of_opened {q : GateSeq} (h : q.state = .opened) : q.Drawing := .inr (.inr h)

theorem pulseCause_none
    (hbelow : ∀ target, (s.gate g).mode = some (.batch target) →
      min ((s.gate g).mass + s.prof.weigherQuantum) 4294967295 < target)
    (hcap : ∀ cap, (s.gate g).wetCap = some cap → min ((s.gate g).mass + s.prof.weigherQuantum) 4294967295 < cap)
    (hw : (pulseTold g s).watch.wet = s.watch.wet) : (pulseTold g s).pulseCause g = none := by
  unfold State.pulseCause
  split
  next ho =>
    have hmass := pulseTold_mass_running g s (running_of_opened ((pulseTold_state g s g).symm.trans ho))
    rw [massCause_eq]
    refine massMet_none (fun target ht => ?_) (fun cap hc => ?_)
    · rw [hmass]; exact hbelow target ((pulseTold_mode g s g).symm.trans ht)
    · rw [hmass]; exact hcap cap ((pulseTold_cap_same hw g).symm.trans hc)
  next => rfl

theorem causeAtPulse_none (hmass : (pulseTold g s).pulseCause g = none)
    (hw : (pulseTold g s).watch.wet = s.watch.wet) (hv : s.prof.cushion < (pulseTold g s).columnVolume) (x : Gate) :
    (pulseTold g s).causeAtPulse s g x = none := by
  have hinformed : (pulseTold g s).informedCause s x = none := by
    rw [informedCause_dry (wetEnds_same hw x), if_neg]
    rintro ⟨-, hle⟩
    rw [prof_of_remote (pulseTold_remote g s)] at hle
    exact Nat.not_le.mpr hv hle
  rw [State.causeAtPulse, hmass, ite_self, hinformed]
  rfl

/-! ## What becomes of a gate -/

/-- A gate stands as the pulse left it, or its draw has ended. -/
theorem pulse_gate_cases (g x : Gate) (s : State) :
    (((s.pulse g).gate x = (pulseTold g s).gate x ∧
      (s.pulse g).watch.windows.get x = (pulseTold g s).watch.windows.get x)) ∨
    ((s.gate x).state.drawing = true ∧ ((s.pulse g).gate x).state.drawing = false ∧
      (s.pulse g).watch.windows.get x =
        if (s.gate x).state = .opened then ⟨⟨false, 0⟩, 0⟩ else (pulseTold g s).watch.windows.get x) := by
  have h := pulse_gate g s x
  by_cases hstays : (pulseTold g s).causeAtPulse s g x = none ∨ ¬((pulseTold g s).gate x).Drawing
  · exact .inl (h.stays hstays)
  · obtain ⟨hc, hd⟩ := not_or.mp hstays
    obtain ⟨c, hc⟩ := Option.ne_none_iff_exists'.mp hc
    obtain ⟨hstate, -, hwindow⟩ := h.ends c hc (Classical.not_not.mp hd)
    refine .inr ⟨?_, hstate, by rw [hwindow, pulseTold_state]⟩
    rw [← pulseTold_state g s x]
    exact (drawing_iff _).mpr (Classical.not_not.mp hd)

/-- A gate that keeps its state stands as the pulse left it. -/
theorem pulse_gate_same {x : Gate} (h : ((s.pulse g).gate x).state = (s.gate x).state) :
    (s.pulse g).gate x = (pulseTold g s).gate x ∧
      (s.pulse g).watch.windows.get x = (pulseTold g s).watch.windows.get x := by
  obtain hsame | ⟨hdrawing, hended, -⟩ := pulse_gate_cases g x s
  · exact hsame
  · rw [h, hdrawing] at hended; cases hended

theorem pulse_mass_running (h : (s.gate g).state.running = true) :
    ((s.pulse g).gate g).mass = min ((s.gate g).mass + s.prof.weigherQuantum) 4294967295 :=
  (pulse_gate g s g).mass.trans (pulseTold_mass_running g s h)

theorem pulse_mass_resting (h : (s.gate g).state.running = false) : ((s.pulse g).gate g).mass = (s.gate g).mass :=
  (pulse_gate g s g).mass.trans (pulseTold_mass_resting g s h)

theorem pulse_mass_other : ((s.pulse g).gate (otherGate g)).mass = (s.gate (otherGate g)).mass :=
  (pulse_gate g s (otherGate g)).mass.trans (pulseTold_mass_other g s (otherGate_ne g))

/-- A cause met by the mass ends the draw of an OPEN gate with it. -/
theorem pulse_ends {c : EndCause} (ho : (s.gate g).state = .opened)
    (hm : massMet ((pulseTold g s).gate g) = some c) :
    ((s.pulse g).gate g).state.drawing = false ∧
    ∀ r, (s.gate g).record = some r → ∃ r', ((s.pulse g).gate g).record = some r' ∧ r'.endCause = some c := by
  obtain ⟨hstate, hrecord, -⟩ := (pulse_gate g s g).ends c (causeAtPulse_mass ho hm)
    (drawing_of_opened ((pulseTold_state g s g).trans ho))
  refine ⟨hstate, fun r hr => ?_⟩
  obtain ⟨r', hr'⟩ := pulseTold_record g s hr
  exact hrecord r' hr'

theorem pulse_target {target : Nat} (ho : (s.gate g).state = .opened) (hm : (s.gate g).mode = some (.batch target))
    (h : target ≤ min ((s.gate g).mass + s.prof.weigherQuantum) 4294967295) :
    massMet ((pulseTold g s).gate g) = some .batchDone :=
  massMet_target ((pulseTold_mode g s g).trans hm) (by rw [pulseTold_mass_running g s (running_of_opened ho)]; exact h)

theorem pulse_cap {cap : Nat} (ho : (s.gate g).state = .opened)
    (hbelow : ∀ target, (s.gate g).mode = some (.batch target) →
      min ((s.gate g).mass + s.prof.weigherQuantum) 4294967295 < target)
    (hc : (s.gate g).wetCap = some cap) (h : cap ≤ min ((s.gate g).mass + s.prof.weigherQuantum) 4294967295) :
    massMet ((pulseTold g s).gate g) = some .wetLimit := by
  have hmass := pulseTold_mass_running g s (running_of_opened ho)
  refine massMet_cap (fun target ht => ?_) (pulseTold_cap g s hc) (by rw [hmass]; exact h)
  rw [hmass]
  exact hbelow target ((pulseTold_mode g s g).symm.trans ht)

theorem pulse_stands (hc : ∀ x, (pulseTold g s).causeAtPulse s g x = none) (x : Gate) :
    ((s.pulse g).gate x).state = (s.gate x).state := by
  rw [((pulse_gate g s x).stays (.inl (hc x))).1]
  exact pulseTold_state g s x

/-! ## The starvation window (R48) -/

theorem pulse_window_open (ho : (s.gate g).state = .opened) (ht : ((s.pulse g).gate g).state = .opened) :
    (s.pulse g).watch.windows.get g =
      ⟨(s.watch.windows.get g).timer, (s.watch.windows.get g).count + s.prof.weigherQuantum⟩ := by
  rw [(pulse_gate_same (ht.trans ho.symm)).2, pulseTold_window, if_pos ho]

theorem pulse_window_left (ho : (s.gate g).state = .opened) (ht : ((s.pulse g).gate g).state ≠ .opened) :
    (s.pulse g).watch.windows.get g = ⟨⟨false, 0⟩, 0⟩ := by
  obtain ⟨hgate, -⟩ | ⟨-, -, hwindow⟩ := pulse_gate_cases g g s
  · exact absurd ((congrArg GateSeq.state hgate).trans ((pulseTold_state g s g).trans ho)) ht
  · rw [hwindow, if_pos ho]

theorem pulse_window_other (ho : (s.gate g).state ≠ .opened) :
    (s.pulse g).watch.windows.get g = s.watch.windows.get g := by
  have htold : (pulseTold g s).watch.windows.get g = s.watch.windows.get g := by rw [pulseTold_window, if_neg ho]
  obtain ⟨-, hwindow⟩ | ⟨-, -, hwindow⟩ := pulse_gate_cases g g s
  · rw [hwindow, htold]
  · rw [hwindow, if_neg ho, htold]

/-! ## The DRAWN (R125) -/

theorem pulseEnded_told (g : Gate) (s : State) (quantum : Nat) : Told quantum (pulseTold g s) (pulseEnded g s) :=
  ((Told.still rfl rfl rfl).endDrawIf _ _).endDrawIf _ _

theorem pulse_reported (hq : s.line.Untipped) (h : s.drawn.reported + s.prof.reportQuantum ≤
      min (s.drawn.cumulative + s.prof.weigherQuantum) 4294967295) :
    Reported s.prof.reportQuantum s.store.generation (min (s.drawn.cumulative + s.prof.weigherQuantum) 4294967295)
      (s.drawn.dribble || !(s.gate g).state.running) s.line (s.pulse g) := by
  have hprof : (pulseEnded g s).prof.reportQuantum = s.prof.reportQuantum := by
    rw [prof_of_remote ((remote_of_apart (pulseEnded_ended hq).apart).trans (pulseTold_remote g s))]
  have hstore := congrArg (fun x : State => x.store.generation) (pulseTold_remote g s)
  have hstore : (pulseTold g s).store.generation = s.store.generation := hstore
  have hreported := (pulseEnded_told g s s.prof.reportQuantum).formDrawnAtQuantum hprof
    (by rw [pulseTold_drawn]; exact h)
  rw [hstore, pulseTold_drawn, pulseTold_line] at hreported
  rw [pulse_eq]
  exact hreported

/-- Where no gate changes its state nothing has ended. -/
theorem pulseEnded_same (h : ∀ x, ((s.pulse g).gate x).state = (s.gate x).state) : pulseEnded g s = pulseTold g s := by
  have hstays (x : Gate) : (pulseTold g s).causeAtPulse s g x = none ∨ ¬((pulseTold g s).gate x).Drawing := by
    refine Classical.byContradiction fun hk => ?_
    obtain ⟨hc, hd⟩ := not_or.mp hk
    obtain ⟨c, hc⟩ := Option.ne_none_iff_exists'.mp hc
    have hended := ((pulse_gate g s x).ends c hc (Classical.not_not.mp hd)).1
    rw [h x, ← pulseTold_state g s x, (drawing_iff _).mpr (Classical.not_not.mp hd)] at hended
    cases hended
  rw [pulseEnded, endDrawIf_stays (hstays .a), endDrawIf_stays (hstays .b)]

theorem pulse_unreported (h : min (s.drawn.cumulative + s.prof.weigherQuantum) 4294967295 <
      s.drawn.reported + s.prof.reportQuantum)
    (hsame : ∀ x, ((s.pulse g).gate x).state = (s.gate x).state) : s.pulse g = pulseTold g s := by
  rw [pulse_eq, pulseEnded_same hsame]
  refine formDrawnAtQuantum_below ?_
  rw [pulseTold_drawn, prof_of_remote (pulseTold_remote g s)]
  exact h

end

/-! ## The obligation -/

theorem running_iff (q : GateSeq) :
    q.state.running = true ↔ q.state = .opening ∨ q.state = .opened ∨ q.state = .closing := by
  cases h : q.state <;> simp [GateState.running]

theorem notRunning_iff (q : GateSeq) :
    q.state.running = false ↔ ¬(q.state = .opening ∨ q.state = .opened ∨ q.state = .closing) := by
  rw [← running_iff, Bool.not_eq_true]

theorem remote_stands {s t : State} (h : t.remote = s.remote) :
    t.field = s.field ∧ t.holds = s.holds ∧ t.reservations = s.reservations ∧ t.tip = s.tip ∧
    t.breaker = s.breaker ∧ t.peers = s.peers ∧ t.mode = s.mode ∧ t.store = s.store ∧ t.profile = s.profile := by
  have hstands := congrArg
    (fun x : State => (x.field, x.holds, x.reservations, x.tip, x.breaker, x.peers, x.mode, x.store, x.profile)) h
  simp only [Prod.mk.injEq] at hstands
  exact hstands

theorem exec_weigherPulse_live {g : Gate} {s : State} (hr : s.straps.role = .draw) (hl : s.Live) :
    exec (.weigherPulse g) s = .next ((s.countPulse g).pulse g) := by
  show Host.Outcome.next _ = _
  exact congrArg _ ((if_pos hr).trans (whenLive_taken (State.pulse g) (s := s.countPulse g) hl))

/-- Settles O23: the raw count, then the pulse's steps in their order; clause by clause. -/
theorem weigherPulseCounts : Obligations.WeigherPulseCounts := by
  refine ⟨fun g s hr hl hkept => ?_, fun g s hr => ?_⟩
  · intro quantum mass total volume runs
    have hq : (s.countPulse g).line.Untipped := (hkept.1 hr).2
    have hremote := pulse_remote (g := g) hq
    have hruns (h : runs) : ((s.countPulse g).gate g).state.running = true := (running_iff _).mpr h
    have hrests (h : ¬runs) : ((s.countPulse g).gate g).state.running = false := (notRunning_iff _).mpr h
    have hflag : (s.drawn.dribble || !(s.gate g).state.running) = true ↔ s.drawn.dribble = true ∨ ¬runs := by
      rw [Bool.or_eq_true, Bool.not_eq_true', notRunning_iff]
    refine ⟨(s.countPulse g).pulse g, exec_weigherPulse_live hr hl, ?_, pulse_cumulative hq,
      fun h => pulse_mass_running (hruns h), fun h => pulse_mass_resting (hrests h), pulse_mass_other,
      pulse_segments hq, fun target ho hm h => pulse_ends ho (pulse_target ho hm h),
      fun cap ho hbelow hc h => pulse_ends ho (pulse_cap ho hbelow hc h), fun hbelow hcap hw hv => ?_,
      pulse_window_open (s := s.countPulse g), pulse_window_left (s := s.countPulse g),
      pulse_window_other (s := s.countPulse g), fun h hstate => ?_, fun h hraised => ?_, fun h => ?_,
      fun h hstate => ?_, ?_⟩
    · exact (remote_stands hremote).1
    · rw [pulse_wet hq] at hw
      rw [pulse_columnVolume hq] at hv
      exact pulse_stands (causeAtPulse_none (pulseCause_none hbelow hcap hw) hw hv)
    · rw [(pulse_gate_same hstate).1]
      exact pulseTold_dribble g _ (hrests h)
    · obtain ⟨hpending, hreason⟩ := pulseTold_model g (s.countPulse g) (hrests h) hraised
      exact ⟨(pulse_ended hq).pending _ hpending, by rw [pulse_column hq]; exact hreason⟩
    · obtain ⟨htotals, -, hqueued⟩ := pulse_reported (g := g) hq h
      refine ⟨by rw [htotals]; rfl, by rw [htotals], fun hactive hlen hidle => ?_⟩
      obtain ⟨-, q, hmem, a, b, e, hf, he⟩ := hqueued ⟨hactive, .inl hlen, hidle⟩
      exact ⟨q, hmem, a, b, e, hf, fun hpos => by rw [he hpos]; exact hflag⟩
    · rw [pulse_unreported (g := g) (s := s.countPulse g) h hstate, pulseTold_line, pulseTold_drawn]
      exact ⟨rfl, rfl, hflag⟩
    · exact (remote_stands hremote).2
  · show Host.Outcome.next _ = _
    refine congrArg Host.Outcome.next ?_
    by_cases hd : s.straps.role = .draw
    · have hdead : ¬(s.countPulse g).Live := hr.resolve_left (by rw [hd]; nofun)
      exact (if_pos hd).trans (if_neg fun hk => hdead ((live_iff (s.countPulse g)).mp hk))
    · exact if_neg hd

end Sys2Proof.Machine
end

section
/-! STATUS (R172, R187): how groups of items are laid out, and the run of them that an answer gives. -/

namespace Sys2Proof.Machine

/-! ## Groups in block and item order -/

/-- Every item of the one group stands before every item of the other. -/
def Before (g h : StatusGroup) : Prop :=
  ∀ x ∈ g, ∀ y ∈ h, x.block < y.block ∨ (x.block = y.block ∧ x.item < y.item)

theorem Before.key_ne {g h : StatusGroup} (hb : Before g h) :
    ∀ x ∈ g, ∀ y ∈ h, (x.block, x.item) ≠ (y.block, y.item) := by
  intro x hx y hy he
  obtain ⟨hblock, hitem⟩ := Prod.mk.inj he
  have := hb x hx y hy
  omega

/-- Groups of one item each, in order, of the blocks `lo` to `hi`, each short enough to go with the closing item. -/
structure Laid (lo hi : Nat) (gs : List StatusGroup) : Prop where
  uniform : ∀ g ∈ gs, ∀ x ∈ g, ∀ y ∈ g, (x.block, x.item) = (y.block, y.item)
  range   : ∀ g ∈ gs, ∀ x ∈ g, lo ≤ x.block ∧ x.block ≤ hi
  ordered : gs.Pairwise Before
  short   : ∀ g ∈ gs, groupLength g ≤ 246

theorem Laid.append {lo mid next hi : Nat} {gs hs : List StatusGroup} (hg : Laid lo mid gs) (hh : Laid next hi hs)
    (hlt : mid < next) (hlo : lo ≤ next) (hhi : mid ≤ hi) : Laid lo hi (gs ++ hs) := by
  refine ⟨List.forall_mem_append.mpr ⟨hg.uniform, hh.uniform⟩, List.forall_mem_append.mpr ⟨?_, ?_⟩,
    List.pairwise_append.mpr ⟨hg.ordered, hh.ordered, ?_⟩, List.forall_mem_append.mpr ⟨hg.short, hh.short⟩⟩
  · intro g hmem x hx
    have := hg.range g hmem x hx
    omega
  · intro g hmem x hx
    have := hh.range g hmem x hx
    omega
  · intro g hgm h hhm x hx y hy
    have := hg.range g hgm x hx
    have := hh.range h hhm y hy
    omega

theorem Laid.sublist {lo hi : Nat} {gs hs : List StatusGroup} (h : Laid lo hi gs) (hsub : hs.Sublist gs) :
    Laid lo hi hs :=
  ⟨fun g hg => h.uniform g (hsub.subset hg), fun g hg => h.range g (hsub.subset hg), h.ordered.sublist hsub,
    fun g hg => h.short g (hsub.subset hg)⟩

theorem groupLength_cons (x : StatusItem) (g : StatusGroup) :
    groupLength (x :: g) = 4 + x.value.length + groupLength g := rfl

theorem groupLength_unavailable (g : StatusGroup) : groupLength (g.map StatusItem.unavailable) ≤ groupLength g := by
  induction g with
  | nil => exact Nat.le_refl _
  | cons x g ih =>
    rw [List.map_cons, groupLength_cons, groupLength_cons]
    exact Nat.add_le_add (Nat.add_le_add_left (Nat.zero_le _) 4) ih

/-- Items that are not available keep their places. -/
theorem Laid.unavailable {lo hi : Nat} {gs : List StatusGroup} (h : Laid lo hi gs) :
    Laid lo hi (gs.map (·.map StatusItem.unavailable)) := by
  refine ⟨?_, ?_, ?_, ?_⟩
  · simp only [List.forall_mem_map]
    exact h.uniform
  · simp only [List.forall_mem_map]
    exact h.range
  · refine List.pairwise_map.mpr (h.ordered.imp fun hb => ?_)
    simp only [Before, List.forall_mem_map]
    exact hb
  · simp only [List.forall_mem_map]
    exact fun g hg => Nat.le_trans (groupLength_unavailable g) (h.short g hg)

/-! ## The groups of a block -/

/-- The groups of a block, its items numbered on from `k + 1`. -/
def groupsFrom (block k : Nat) (items : List (Nat → Nat → StatusGroup)) : List StatusGroup :=
  (items.zipIdx k).map (fun p => p.1 block (p.2 + 1))

theorem blockGroups_eq (block : Nat) (items : List (Nat → Nat → StatusGroup)) :
    blockGroups block items = groupsFrom block 0 items := rfl

theorem groupsFrom_cons (block k : Nat) (f : Nat → Nat → StatusGroup) (items : List (Nat → Nat → StatusGroup)) :
    groupsFrom block k (f :: items) = f block (k + 1) :: groupsFrom block (k + 1) items := by
  rw [groupsFrom, List.zipIdx_cons, List.map_cons]
  rfl

/-- A group stands at the block and item it is given, and is short. -/
structure Places (f : Nat → Nat → StatusGroup) : Prop where
  placed : ∀ block item, ∀ x ∈ f block item, x.block = block ∧ x.item = item
  short  : ∀ block item, groupLength (f block item) ≤ 246

theorem groupsFrom_after {items : List (Nat → Nat → StatusGroup)} (h : ∀ f ∈ items, Places f) (block k : Nat) :
    ∀ g ∈ groupsFrom block k items, ∀ x ∈ g, x.block = block ∧ k < x.item := by
  induction items generalizing k with
  | nil => exact fun g hg => nomatch hg
  | cons f items ih =>
    rw [List.forall_mem_cons] at h
    rw [groupsFrom_cons, List.forall_mem_cons]
    refine ⟨fun x hx => ?_, fun g hg x hx => ?_⟩
    · obtain ⟨hblock, hitem⟩ := h.1.placed block (k + 1) x hx
      exact ⟨hblock, by omega⟩
    · obtain ⟨hblock, hitem⟩ := ih h.2 (k + 1) g hg x hx
      exact ⟨hblock, by omega⟩

theorem groupsFrom_laid {items : List (Nat → Nat → StatusGroup)} (h : ∀ f ∈ items, Places f) (block k : Nat) :
    Laid block block (groupsFrom block k items) := by
  induction items generalizing k with
  | nil => exact ⟨fun g hg => (nomatch hg), fun g hg => (nomatch hg), .nil, fun g hg => (nomatch hg)⟩
  | cons f items ih =>
    rw [List.forall_mem_cons] at h
    have hrest := ih h.2 (k + 1)
    have hafter := groupsFrom_after h.2 block (k + 1)
    have hplaced := h.1.placed block (k + 1)
    rw [groupsFrom_cons]
    refine ⟨List.forall_mem_cons.mpr ⟨fun x hx y hy => ?_, hrest.uniform⟩,
      List.forall_mem_cons.mpr ⟨fun x hx => ?_, hrest.range⟩,
      List.pairwise_cons.mpr ⟨fun g hg x hx y hy => .inr ?_, hrest.ordered⟩,
      List.forall_mem_cons.mpr ⟨h.1.short block (k + 1), hrest.short⟩⟩
    · obtain ⟨hxb, hxi⟩ := hplaced x hx
      obtain ⟨hyb, hyi⟩ := hplaced y hy
      rw [hxb, hxi, hyb, hyi]
    · obtain ⟨hxb, -⟩ := hplaced x hx
      omega
    · obtain ⟨hxb, hxi⟩ := hplaced x hx
      obtain ⟨hyb, hyi⟩ := hafter g hg y hy
      omega

theorem blockGroups_laid {items : List (Nat → Nat → StatusGroup)} (h : ∀ f ∈ items, Places f) (block : Nat) :
    Laid block block (blockGroups block items) := groupsFrom_laid h block 0

theorem single_places {v : List Byte} (h : v.length ≤ 242) : Places (single v) := by
  refine ⟨fun block item x hx => ?_, fun block item => ?_⟩
  · rw [single, List.mem_singleton] at hx
    rw [hx]
    exact ⟨rfl, rfl⟩
  · rw [single, groupLength_cons]
    show 4 + v.length + 0 ≤ 246
    omega

theorem repeated_length {n : Nat} {values : List (Nat × List Byte)} (h : ∀ v ∈ values, v.2.length ≤ n)
    (block item : Nat) : groupLength (repeated values block item) ≤ values.length * (4 + n) := by
  induction values with
  | nil => exact Nat.zero_le _
  | cons v values ih =>
    rw [List.forall_mem_cons] at h
    rw [repeated, List.map_cons, groupLength_cons, List.length_cons, Nat.succ_mul, Nat.add_comm]
    exact Nat.add_le_add (ih h.2) (Nat.add_le_add_left h.1 4)

theorem repeated_places {n : Nat} {values : List (Nat × List Byte)} (h : ∀ v ∈ values, v.2.length ≤ n)
    (hn : values.length * (4 + n) ≤ 246) : Places (repeated values) := by
  refine ⟨fun block item x hx => ?_, fun block item => Nat.le_trans (repeated_length h block item) hn⟩
  obtain ⟨v, -, rfl⟩ := List.mem_map.mp hx
  exact ⟨rfl, rfl⟩

theorem perGate_places {f : Gate → List Byte} (h : ∀ g, (f g).length ≤ 119) : Places (perGate f) :=
  repeated_places (n := 119) (by simp only [List.forall_mem_cons]; exact ⟨h .a, h .b, fun _ hv => nomatch hv⟩)
    (show 2 * (4 + 119) ≤ 246 by decide)

theorem perInput_places {f : InputNo → List Byte} (h : ∀ i, (f i).length ≤ 16) : Places (perInput f) :=
  repeated_places (n := 16) (List.forall_mem_map.mpr fun i _ => h i)
    (by rw [List.length_map, List.length_finRange]; decide)

theorem perOutput_places {f : Fin 6 → List Byte} (h : ∀ o, (f o).length ≤ 16) : Places (perOutput f) :=
  repeated_places (n := 16) (List.forall_mem_map.mpr fun o _ => h o)
    (by rw [List.length_map, List.length_finRange]; decide)

/-! ## The run of items an answer gives (R187) -/

theorem itemsLength_append (l m : List StatusItem) : itemsLength (l ++ m) = itemsLength l + itemsLength m := by
  rw [itemsLength, List.map_append, List.sum_append]
  rfl

/-- What the answer is filled with: nothing to give, all of it with the closing item, or groups up to one that no
longer fits. -/
theorem fillAnswer_run (gs : List StatusGroup) (space : Nat) :
    itemsLength (fillAnswer gs space) ≤ space ∧
    ((gs = [] ∧ fillAnswer gs space = []) ∨ (gs ≠ [] ∧ fillAnswer gs space = gs.flatten ++ [closingItem]) ∨
      ∃ pre g post, gs = pre ++ g :: post ∧ fillAnswer gs space = pre.flatten ∧
        space < itemsLength pre.flatten + groupLength g + (if post = [] then 4 else 0)) := by
  induction gs, space using fillAnswer.induct with
  | case1 => exact ⟨Nat.zero_le _, .inl ⟨rfl, rfl⟩⟩
  | case2 last space hfits =>
    rw [fillAnswer, if_pos hfits]
    refine ⟨?_, .inr (.inl ⟨List.cons_ne_nil _ _, by rw [List.flatten_cons, List.flatten_nil, List.append_nil]⟩)⟩
    rw [itemsLength_append]
    exact hfits
  | case3 last space hfull =>
    rw [fillAnswer, if_neg hfull]
    refine ⟨Nat.zero_le _, .inr (.inr ⟨[], last, [], rfl, rfl, ?_⟩)⟩
    rw [if_pos rfl, List.flatten_nil]
    show space < 0 + groupLength last + 4
    omega
  | case4 g rest space hrest hfits ih =>
    rw [fillAnswer, if_pos hfits]
    obtain ⟨hlen, hrun⟩ := ih
    refine ⟨?_, ?_⟩
    · rw [itemsLength_append]
      show groupLength g + _ ≤ space
      omega
    · obtain ⟨hnil, -⟩ | ⟨hne, hfill⟩ | ⟨pre, h, post, hgs, hfill, hspace⟩ := hrun
      · exact absurd hnil hrest
      · exact .inr (.inl ⟨List.cons_ne_nil _ _, by rw [hfill, List.flatten_cons, List.append_assoc]⟩)
      · refine .inr (.inr ⟨g :: pre, h, post, by rw [hgs, List.cons_append], by rw [hfill, List.flatten_cons], ?_⟩)
        rw [List.flatten_cons, itemsLength_append]
        show space < groupLength g + _ + _ + _
        omega
    · exact hrest
  | case5 g rest space hrest hfull =>
    rw [fillAnswer, if_neg hfull]
    refine ⟨Nat.zero_le _, .inr (.inr ⟨[], g, rest, rfl, rfl, ?_⟩)⟩
    · rw [List.flatten_nil]
      show space < 0 + groupLength g + _
      omega
    · exact hrest

theorem flatten_eq_nil_of_nonempty {gs : List StatusGroup} (h : ∀ g ∈ gs, g ≠ []) : gs.flatten = [] ↔ gs = [] := by
  cases gs with
  | nil => exact ⟨fun _ => rfl, fun _ => rfl⟩
  | cons g gs =>
    rw [List.forall_mem_cons] at h
    simp [h.1]

/-- Groups laid out in order, none empty, are given as a run of their items. -/
theorem fillAnswer_runOf {lo hi : Nat} {gs : List StatusGroup} (h : Laid lo hi gs) (hne : ∀ g ∈ gs, g ≠ []) :
    RunOf gs.flatten (fillAnswer gs 250) := by
  obtain ⟨hlen, hrun⟩ := fillAnswer_run gs 250
  refine ⟨hlen, ?_⟩
  obtain ⟨hnil, hfill⟩ | ⟨hsome, hfill⟩ | ⟨pre, g, post, hgs, hfill, hspace⟩ := hrun
  · exact .inl ⟨(flatten_eq_nil_of_nonempty hne).mpr hnil, hfill⟩
  · exact .inr (.inl ⟨fun hk => hsome ((flatten_eq_nil_of_nonempty hne).mp hk), hfill⟩)
  · subst hgs
    rw [List.forall_mem_append, List.forall_mem_cons] at hne
    obtain ⟨hpre, hg, hpost⟩ := hne
    have hordered := List.pairwise_append.mp h.ordered
    have hshort := h.short g (List.mem_append_right _ List.mem_cons_self)
    rw [hfill]
    refine .inr (.inr ⟨g, post.flatten, fun hk => ?_, hg, ?_, ?_, fun x hx y hy => ?_, ?_⟩)
    · rw [hk] at hspace
      have hlast : (if post = [] then 4 else 0) ≤ 4 := by split <;> omega
      have hspace : 250 < 0 + groupLength g + (if post = [] then 4 else 0) := hspace
      omega
    · rw [List.flatten_append, List.flatten_cons, List.append_assoc]
    · exact h.uniform g (List.mem_append_right _ List.mem_cons_self)
    · obtain hy | hy := List.mem_append.mp hy
      · obtain ⟨k, hk, hy⟩ := List.mem_flatten.mp hy
        exact ((hordered.2.2 k hk g List.mem_cons_self).key_ne y hy x hx).symm
      · obtain ⟨k, hk, hy⟩ := List.mem_flatten.mp hy
        exact ((List.pairwise_cons.mp hordered.2.1).1 k hk).key_ne x hx y hy
    · rw [ite_of_iff (flatten_eq_nil_of_nonempty hpost) rfl rfl]
      exact hspace

/-! ## From the block and item named on -/

/-- An item at or after the block and item named. -/
abbrev FromNamed (block item : Nat) (x : StatusItem) : Prop :=
  block < x.block ∨ (x.block = block ∧ item ≤ x.item)

theorem fromNamed_eq (block item : Nat) (g : StatusGroup) :
    fromNamed block item g = g.any (fun x => decide (FromNamed block item x)) := by
  refine congrArg g.any (funext fun x => ?_)
  rw [Bool.decide_or, Bool.decide_and]
  rfl

theorem filter_uniform {g : StatusGroup} {p : StatusItem → Bool} (h : ∀ x ∈ g, ∀ y ∈ g, p x = p y) :
    g.filter p = if g.any p = true then g else [] := by
  split
  next hany =>
    obtain ⟨x, hx, hp⟩ := List.any_eq_true.mp hany
    exact List.filter_eq_self.mpr fun y hy => (h y hy x hx).trans hp
  next hnone =>
    exact List.filter_eq_nil_iff.mpr fun x hx hp => hnone (List.any_eq_true.mpr ⟨x, hx, hp⟩)

theorem filter_flatten {gs : List StatusGroup} {p : StatusItem → Bool} (h : ∀ g ∈ gs, ∀ x ∈ g, ∀ y ∈ g, p x = p y) :
    gs.flatten.filter p = (gs.filter (fun g => g.any p)).flatten := by
  induction gs with
  | nil => rfl
  | cons g gs ih =>
    rw [List.forall_mem_cons] at h
    rw [List.flatten_cons, List.filter_append, ih h.2, filter_uniform h.1, List.filter_cons]
    split
    · rw [List.flatten_cons]
    · rfl

/-- The answer to STATUS, from the block and item named on. -/
theorem statusFrom_runOf {lo hi : Nat} {s : State} (h : Laid lo hi s.statusGroups) (block item : Nat) :
    RunOf (s.statusGroups.flatten.filter (fun x => FromNamed block item x)) (s.statusFrom block item) := by
  have hkept : s.statusGroups.filter (fromNamed block item) =
      s.statusGroups.filter (fun g => g.any (fun x => decide (FromNamed block item x))) :=
    congrArg (s.statusGroups.filter ·) (funext (fromNamed_eq block item))
  have hsame : ∀ g ∈ s.statusGroups, ∀ x ∈ g, ∀ y ∈ g,
      decide (FromNamed block item x) = decide (FromNamed block item y) := by
    intro g hg x hx y hy
    obtain ⟨hblock, hitem⟩ := Prod.mk.inj (h.uniform g hg x hx y hy)
    simp only [FromNamed, hblock, hitem]
  rw [filter_flatten hsame, State.statusFrom, hkept]
  refine fillAnswer_runOf (h.sublist List.filter_sublist) fun g hg hk => ?_
  have hany := (List.mem_filter.mp hg).2
  rw [hk] at hany
  cases hany

end Sys2Proof.Machine
end

section
/-! STATUS, item by item (R172, R187): what each block shows. -/

namespace Sys2Proof.Machine

/-! ## The items of a block's groups -/

/-- The groups of a block numbered on from `k + 1` hold these items. -/
def Shows (block k : Nat) (items : List (Nat → Nat → StatusGroup)) (shown : List StatusItem) : Prop :=
  (groupsFrom block k items).flatten = shown

section
variable {block k : Nat} {items : List (Nat → Nat → StatusGroup)} {l : List StatusItem}

theorem Shows.nil : Shows block k [] [] := rfl

theorem Shows.group {g : List StatusItem} {f : Nat → Nat → StatusGroup} (hg : f block (k + 1) = g)
    (h : Shows block (k + 1) items l) : Shows block k (f :: items) (g ++ l) := by
  rw [Shows, groupsFrom_cons, List.flatten_cons, hg, show (groupsFrom block (k + 1) items).flatten = l from h]

theorem Shows.single {v v' : List Byte} (hv : v = v') (h : Shows block (k + 1) items l) :
    Shows block k (Machine.single v :: items) (⟨block, k + 1, 0, v'⟩ :: l) :=
  Shows.group (g := [⟨block, k + 1, 0, v'⟩]) (by rw [← hv]; rfl) h

theorem Shows.perGate {f f' : Gate → List Byte} (hf : ∀ g, f g = f' g) (h : Shows block (k + 1) items l) :
    Shows block k (Machine.perGate f :: items) (gateItems block (k + 1) f' ++ l) :=
  Shows.group (by rw [← funext hf]; rfl) h

theorem Shows.perInput {f f' : InputNo → List Byte} (hf : ∀ i, f i = f' i) (h : Shows 10 (k + 1) items l) :
    Shows 10 k (Machine.perInput f :: items) (inputItems (k + 1) f' ++ l) :=
  Shows.group (by rw [← funext hf, Machine.perInput, repeated, List.map_map]; rfl) h

theorem Shows.perOutput {f f' : Fin 6 → List Byte} (hf : ∀ o, f o = f' o) (h : Shows 10 (k + 1) items l) :
    Shows 10 k (Machine.perOutput f :: items) (outputItems (k + 1) f' ++ l) :=
  Shows.group (by rw [← funext hf, Machine.perOutput, repeated, List.map_map]; rfl) h

end

/-! ## Values of several blocks -/

theorem timer_bytes (t : Timer) : t.bytes = timeShown t := by
  unfold Timer.bytes timeShown
  obtain ⟨running, left⟩ := t
  cases running <;> simp

theorem optBytes_map {α : Type} (f : α → List Byte) (o : Option α) : optBytes f o = (o.map f).getD [] := by
  cases o <;> rfl

theorem twoName_eq (b : Bool) : twoName b = [if b = true then 1#8 else 2#8] := by cases b <;> rfl

theorem onlyIf_draw (r : Role) (v : List Byte) : onlyIf (r == .draw) v = if r = .draw then v else [] :=
  ite_of_iff beq_iff_eq rfl rfl

/-! ## Block by block -/

theorem station_shows (s : State) : Shows 1 0 s.statusStation (stationShown s) := by
  refine .single ?_ (.single ?_ (.single ?_ (.single (optBytes_map _ _) (.single ?_ (.single rfl (.single rfl .nil))))))
  · cases s.straps.role <;> rfl
  · cases s.mode <;> rfl
  · cases s.profileResult <;> rfl
  · cases s.store.write <;> rfl

theorem readingBytes_eq (r : Reading) : readingBytes (some r) = readingShown r := by
  obtain ⟨depth, quality, sender, time, disposition⟩ := r
  cases disposition <;> rfl

theorem column_shows (s : State) : Shows 2 0 s.statusColumn (columnShown s) := by
  refine .single rfl (.single rfl (.single rfl (.single rfl (.single rfl (.single rfl (.single ?_ (.single ?_
    (.single ?_ (.single rfl (.single rfl (.single rfl (.single rfl .nil))))))))))))
  · rw [optBytes_map]
    exact congrArg (fun f => (s.column.lastReading.map f).getD []) (funext readingBytes_eq)
  · cases s.column.lastReason with
    | none => rfl
    | some r => cases r <;> rfl
  · cases s.column.seeded <;> rfl

theorem watch_shows (s : State) : Shows 3 0 s.statusWatch (watchShown s) := by
  unfold watchShown
  simp only [List.append_assoc, itemsFrom, List.cons_append, List.nil_append]
  refine .single ?_ (.single (optBytes_map _ _) (.perGate (fun g => onlyIf_draw _ _) (.single ?_ .nil)))
  · cases s.watch.wet <;> rfl
  · rw [timer_bytes]; exact onlyIf_draw _ _

theorem holds_shows (s : State) : Shows 4 0 s.statusHolds (holdsShown s) := .single rfl (.single rfl .nil)

theorem outcomeBytes_eq (o : TipOutcome) : outcomeBytes o =
    (match o.outcome with
      | .tipped => [1#8, 0#8] | .noRoom => [2#8, 0#8]
      | .withdrawn c => [3#8, BitVec.ofNat 8 (withdrawCode c)]) ++ loadShown o.load ++ nat4 o.time := by
  unfold outcomeBytes
  cases o.outcome <;> rfl

theorem tip_shows (s : State) : Shows 5 0 s.statusTip (tipShown s) := by
  refine .single rfl (.single ?_ (.single (timer_bytes _) (.single (timer_bytes _) (.single ?_ (.single ?_ (.single rfl
    (.single rfl (.single rfl (.single ?_ .nil)))))))))
  · cases s.tip.stage <;> rfl
  · rw [twoName_eq, twoName_eq]; rfl
  · cases s.tip.lastOutcome with
    | none => rfl
    | some o => exact outcomeBytes_eq o
  · rfl

theorem breaker_shows (s : State) : Shows 6 0 s.statusBreaker (breakerShown s) := by
  refine .single rfl (.single ?_ (.single ?_ (.single (timer_bytes _) (.single (timer_bytes _) (.single (twoName_eq _)
    (.single (twoName_eq _) (.single ?_ .nil)))))))
  · cases s.breaker.state with
    | fault c => cases c <;> rfl
    | parked | working t | returning => rfl
  · cases s.breaker.state <;> rfl
  · cases s.breaker.lastEnd with
    | none => rfl
    | some e =>
      obtain ⟨cause, time⟩ := e
      cases cause <;> rfl

theorem recordBytes_eq (r : DrawRecord) : recordBytes r = recordShown r := by
  obtain ⟨mode, mass, endCause, wet, outcome⟩ := r
  have hmode : nat1 (drawModeCode mode) ++ nat4 mode.targetOrZero =
      match mode with | .held => [1#8] ++ nat4 0 | .batch t => [2#8] ++ nat4 t := by cases mode <;> rfl
  have hcause : nat1 ((endCause.map endCauseCode).getD 0) =
      [match endCause with
        | none => 0#8 | some .stop => 1#8 | some .renewalLapse => 2#8 | some .hold => 3#8 | some .receiverLost => 4#8
        | some .cushion => 5#8 | some .wetLimit => 6#8 | some .batchDone => 7#8 | some .starved => 8#8
        | some .stopLoop => 9#8] := by
    cases endCause with
    | none => rfl
    | some c => cases c <;> rfl
  have houtcome : (match outcome with
      | some (true, t) => nat1 1 ++ nat4 t
      | some (false, t) => nat1 2 ++ nat4 t
      | none => nat1 0 ++ nat4 0) =
      match outcome with
      | none => [0#8] ++ nat4 0
      | some (closed, t) => [if closed = true then 1#8 else 2#8] ++ nat4 t := by
    cases outcome with
    | none => rfl
    | some o =>
      obtain ⟨closed, t⟩ := o
      cases closed <;> rfl
  refine (congrArg (· ++ _) (List.append_assoc _ _ _)).trans ?_
  exact congr (congrArg HAppend.hAppend
    (congr (congrArg HAppend.hAppend (congrArg (· ++ nat4 mass) hmode)) (congrArg (· ++ bool1 wet) hcause))) houtcome

theorem gates_shows (s : State) : Shows 7 0 s.statusGates (gatesShown s) := by
  unfold gatesShown
  simp only [List.append_assoc, itemsFrom]
  refine .perGate (fun g => rfl) (.perGate (fun g => ?_) (.perGate (fun g => ?_) (.perGate (fun g => ?_)
    (.perGate (fun g => ?_) (.perGate (fun g => ?_) (.perGate (fun g => optBytes_map _ _) (.perGate (fun g => rfl)
    (.perGate (fun g => ?_) (.perGate (fun g => timer_bytes _) (.perGate (fun g => timer_bytes _)
    (.perGate (fun g => timer_bytes _) (.perGate (fun g => ?_) (.single rfl (.single rfl (.single rfl
    (.single (optBytes_map _ _) (.single rfl .nil)))))))))))))))))
  · cases (s.gate g).state with
    | fault c => cases c <;> rfl
    | closed | warning | opening | opened | closing => rfl
  · rw [twoName_eq, twoName_eq, twoName_eq]; rfl
  · cases g <;>
    · simp only [State.gateDrives, List.flatMap_cons, List.flatMap_nil, twoName_eq]
      rfl
  · cases (s.gate g).mode with
    | none => rfl
    | some m => cases m <;> rfl
  · cases (s.gate g).mode with
    | none => rfl
    | some m => cases m <;> rfl
  · cases (s.gate g).token <;> rfl
  · rw [optBytes_map]
    exact congrArg (fun f => ((s.gate g).record.map f).getD []) (funext recordBytes_eq)

theorem queueShown_eq (queue : List QueuedFrame) (n : Nat) :
    (queue.zipIdx n).map (fun p => (⟨8, 4, p.2 + 1, nat1 (kindCode p.1.frame.kind) ++ nat1 p.1.frame.cls⟩ : StatusItem)) =
      queueShown (n + 1) queue := by
  induction queue generalizing n with
  | nil => rfl
  | cons q queue ih => rw [List.zipIdx_cons, List.map_cons, ih (n + 1), queueShown]

theorem line_shows (s : State) : Shows 8 0 s.statusLine (lineShown s) := by
  unfold lineShown
  simp only [itemsFrom, List.cons_append, List.nil_append]
  refine .single rfl (.single ?_ (.single rfl (.group ?_ (.single rfl (.single ?_ (.single rfl (.single rfl (.single rfl
    (.single rfl (.single rfl (.single rfl (.single rfl (.single rfl (.single rfl (.single rfl (.single rfl (.single rfl
    (.single rfl (.single ?_ .nil)))))))))))))))))))
  · cases s.line.state <;> rfl
  · rw [repeated, queueValues, List.map_map]
    exact queueShown_eq s.line.queue 0
  · rw [timer_bytes]
    exact ite_of_iff beq_iff_eq rfl rfl
  · cases s.line.lastReason with
    | none => rfl
    | some r => cases r <;> rfl

theorem peers_shows (s : State) : Shows 9 0 s.statusPeers (peersShown s) := by
  refine .single ?_ (.single ?_ (.single rfl (.single rfl (.single (optBytes_map _ _) (.single rfl (.single ?_
    (.single (timer_bytes _) .nil)))))))
  · cases s.mode <;> rfl
  · rw [timer_bytes]
    exact ite_of_iff beq_iff_eq rfl rfl
  · rw [State.ownCounter]
    cases s.straps.role <;> rfl

theorem threeBits (a b c : Bool) : nat1 (bitSet [a, b, c]) =
    [(if a = true then 1#8 else 0#8) + (if b = true then 2#8 else 0#8) + (if c = true then 4#8 else 0#8)] := by
  cases a <;> cases b <;> cases c <;> rfl

theorem field_shows (s : State) : Shows 10 0 s.statusField (fieldShown s) := by
  unfold fieldShown
  simp only [List.append_assoc, itemsFrom, List.cons_append, List.nil_append]
  refine .perInput (fun i => ?_) (.perInput (fun i => twoName_eq _) (.perInput (fun i => ?_) (.perInput (fun i => rfl)
    (.perGate (fun g => rfl) (.single ?_ (.single (optBytes_map _ _) (.single (optBytes_map _ _) (.single (timer_bytes _)
    (.single rfl (.single rfl (.single rfl (.single rfl (.perOutput (fun o => ?_) (.perOutput (fun o => twoName_eq _)
    (.perOutput (fun o => twoName_eq _) (.single ?_ .nil))))))))))))))))
  · cases inputFunction s.straps.role i with
    | closedLimit g | openLimit g | receiverReady g => cases g <;> rfl
    | stopLoop | truckPresent | breakerPark | spare => rfl
  · cases s.field.inputs[i].conditioned with
    | none => rfl
    | some b => exact twoName_eq b
  · cases s.field.lastRaw with
    | none => rfl
    | some r =>
      obtain ⟨distance, quality, time, reason⟩ := r
      cases reason <;> rfl
  · cases s.straps.role with
    | tip =>
      show nat1 (if o.val < 3 then o.val + 1 else 10) = _
      split <;> rfl
    | draw => rfl
  · rw [threeBits]
    simp only [State.loopOpen, beq_iff_eq]

end Sys2Proof.Machine
end

section
/-! STATUS and the reports (R172, R176, R177, R187): every item is short enough for an answer, and the obligation. -/

namespace Sys2Proof.Machine

/-! ## Every group fits an answer -/

/-- Every group stands in its place and is short. -/
def AllPlace (items : List (Nat → Nat → StatusGroup)) : Prop := ∀ f ∈ items, Places f

section
variable {items : List (Nat → Nat → StatusGroup)} (h : AllPlace items)
include h

theorem AllPlace.cons {f : Nat → Nat → StatusGroup} (hf : Places f) : AllPlace (f :: items) :=
  List.forall_mem_cons.mpr ⟨hf, h⟩

theorem AllPlace.single {v : List Byte} (hv : v.length ≤ 242) : AllPlace (Machine.single v :: items) :=
  h.cons (single_places hv)

/-- A value of a length that can be read off it. -/
theorem AllPlace.plain {v : List Byte} (hv : Nat.ble v.length 242 = true) : AllPlace (Machine.single v :: items) :=
  h.single (Nat.le_of_ble_eq_true hv)

theorem AllPlace.perGate {f : Gate → List Byte} (hf : ∀ g, (f g).length ≤ 119) :
    AllPlace (Machine.perGate f :: items) := h.cons (perGate_places hf)

theorem AllPlace.gatesPlain {f : Gate → List Byte} (hf : ∀ g, Nat.ble (f g).length 119 = true) :
    AllPlace (Machine.perGate f :: items) := h.perGate fun g => Nat.le_of_ble_eq_true (hf g)

theorem AllPlace.perInput {f : InputNo → List Byte} (hf : ∀ i, (f i).length ≤ 16) :
    AllPlace (Machine.perInput f :: items) := h.cons (perInput_places hf)

theorem AllPlace.perOutput {f : Fin 6 → List Byte} (hf : ∀ o, (f o).length ≤ 16) :
    AllPlace (Machine.perOutput f :: items) := h.cons (perOutput_places hf)

end

theorem AllPlace.nil : AllPlace [] := fun _ hf => nomatch hf

theorem optBytes_length {α : Type} {f : α → List Byte} {n : Nat} (h : ∀ x, (f x).length ≤ n) (o : Option α) :
    (optBytes f o).length ≤ n := by
  cases o with
  | none => exact Nat.zero_le n
  | some x => exact h x

theorem optBytes_short {α : Type} {f : α → List Byte} {n : Nat} (h : ∀ x, Nat.ble (f x).length n = true)
    (o : Option α) : (optBytes f o).length ≤ n := optBytes_length (fun x => Nat.le_of_ble_eq_true (h x)) o

theorem onlyIf_length (c : Bool) (v : List Byte) : (onlyIf c v).length ≤ v.length := by
  cases c with
  | false => exact Nat.zero_le _
  | true => exact Nat.le_refl _

theorem timer_length (t : Timer) : t.bytes.length ≤ 4 := by
  unfold Timer.bytes
  split
  · exact Nat.le_refl 4
  · exact Nat.zero_le 4

theorem twoName_length (b : Bool) : (twoName b).length = 1 := by cases b <;> rfl

theorem station_places (s : State) : AllPlace s.statusStation := by
  have hresult : (resultBytes s.profileResult).length ≤ 242 := by
    cases s.profileResult <;> exact Nat.le_of_ble_eq_true rfl
  exact .plain (.plain (.single (.single (.plain (.plain (.plain .nil rfl) rfl) rfl) (optBytes_short (fun _ => rfl) _))
    hresult) rfl) rfl

theorem column_places (s : State) : AllPlace s.statusColumn :=
  .plain (.plain (.plain (.plain (.plain (.plain (.single (.single (.plain (.plain (.plain (.plain (.plain .nil rfl) rfl)
    rfl) rfl) rfl) (optBytes_short (fun _ => rfl) _)) (optBytes_short (fun _ => rfl) _)) rfl) rfl) rfl) rfl) rfl) rfl

theorem watch_places (s : State) : AllPlace s.statusWatch := by
  have hrest := Nat.le_trans (onlyIf_length (s.straps.role == .draw) s.watch.wetRest.bytes) (timer_length _)
  exact .plain (.single (.perGate (.single .nil (Nat.le_trans hrest (by decide)))
    fun g => Nat.le_trans (onlyIf_length _ _) (Nat.le_of_ble_eq_true rfl)) (optBytes_short (fun _ => rfl) _)) rfl

/-- A holder has at most three entries, one of each kind (R57). -/
theorem ownHolds_length {s : State} (h : s.HoldsKept) : (s.holds.filter (·.holder == s.own)).length ≤ 3 := by
  have hsub : ((s.holds.filter (·.holder == s.own)).map (fun x => (x.holder, x.body.kind))).Nodup :=
    h.1.sublist (List.filter_sublist.map _)
  have hkinds : ((s.holds.filter (·.holder == s.own)).map (fun x => x.body.kind)).Nodup := by
    refine List.pairwise_map.mpr ((List.pairwise_map.mp hsub).imp_of_mem fun {x y} hx hy hne hk => hne ?_)
    exact Prod.ext ((beq_iff_eq.mp (List.mem_filter.mp hx).2).trans (beq_iff_eq.mp (List.mem_filter.mp hy).2).symm) hk
  have hle := hkinds.length_le_of_subset (l₂ := [.halt, .entry, .hangup]) fun k _ => by cases k <;> decide
  rw [List.length_map] at hle
  exact hle

theorem holds_length (l : List Hold) : (l.flatMap holdBytes).length = 15 * l.length := by
  induction l with
  | nil => rfl
  | cons h l ih => rw [List.flatMap_cons, List.length_append, holdBytes_length, ih, List.length_cons]; omega

theorem holds_places {s : State} (h : s.HoldsKept) : AllPlace s.statusHolds := by
  refine .single (.plain .nil rfl) ?_
  have := ownHolds_length h
  rw [holds_length]
  omega

theorem outcome_length (o : TipOutcome) : (outcomeBytes o).length ≤ 16 := by
  unfold outcomeBytes
  cases o.outcome <;> exact Nat.le_of_ble_eq_true rfl

theorem tip_places (s : State) : AllPlace s.statusTip := by
  have htimer (t : Timer) : t.bytes.length ≤ 242 := Nat.le_trans (timer_length t) (by decide)
  have hlamps : (twoName (s.drive 0) ++ twoName (s.drive 1)).length ≤ 242 := by
    rw [List.length_append, twoName_length, twoName_length]; decide
  exact .plain (.single (.single (.single (.single (.single (.plain (.plain (.plain (.single .nil
    (Nat.le_trans (onlyIf_length _ _) (Nat.le_of_ble_eq_true rfl))) rfl) rfl) rfl)
    (Nat.le_trans (optBytes_length outcome_length _) (by decide))) hlamps) (htimer _)) (htimer _))
    (optBytes_short (fun _ => rfl) _)) rfl

theorem breaker_places (s : State) : AllPlace s.statusBreaker := by
  have htimer (t : Timer) : t.bytes.length ≤ 242 := Nat.le_trans (timer_length t) (by decide)
  have hname (b : Bool) : (twoName b).length ≤ 242 := by rw [twoName_length]; decide
  have hfault : s.breaker.state.faultBytes.length ≤ 242 := by
    cases s.breaker.state <;> exact Nat.le_of_ble_eq_true rfl
  have htoken : s.breaker.state.tokenBytes.length ≤ 242 := by
    cases s.breaker.state <;> exact Nat.le_of_ble_eq_true rfl
  exact .plain (.single (.single (.single (.single (.single (.single (.single .nil (optBytes_short (fun _ => rfl) _))
    (hname _)) (hname _)) (htimer _)) (htimer _)) htoken) hfault) rfl

theorem record_length (r : DrawRecord) : (recordBytes r).length ≤ 16 := by
  obtain ⟨mode, mass, endCause, wet, outcome⟩ := r
  cases outcome with
  | none => exact Nat.le_of_ble_eq_true rfl
  | some o =>
    obtain ⟨closed, time⟩ := o
    cases closed <;> exact Nat.le_of_ble_eq_true rfl

theorem gates_places (s : State) : AllPlace s.statusGates := by
  have htimer (t : Timer) : t.bytes.length ≤ 119 := Nat.le_trans (timer_length t) (by decide)
  have hfault (q : GateState) : q.faultBytes.length ≤ 119 := by
    cases q <;> exact Nat.le_of_ble_eq_true rfl
  have hinputs (a b c : Bool) : (twoName a ++ twoName b ++ twoName c).length ≤ 119 := by
    simp only [List.length_append, twoName_length]; decide
  have hdrives (g : Gate) : ((s.gateDrives g).flatMap twoName).length ≤ 119 := by
    cases g <;> simp only [State.gateDrives, List.flatMap_cons, List.flatMap_nil, List.length_append, twoName_length]
      <;> decide
  have htarget (m : DrawMode) : m.targetBytes.length ≤ 119 := by
    cases m <;> exact Nat.le_of_ble_eq_true rfl
  exact .gatesPlain (.perGate (.perGate (.perGate (.perGate (.perGate (.perGate (.gatesPlain (.perGate (.perGate (.perGate
    (.perGate (.perGate (.plain (.plain (.plain (.single (.plain .nil rfl) (optBytes_short (fun _ => rfl) _)) rfl) rfl) rfl)
    fun g => Nat.le_trans (optBytes_length record_length _) (by decide)) fun g => htimer _) fun g => htimer _) fun g => htimer _)
    fun g => optBytes_short (fun _ => rfl) _) fun _ => rfl) fun g => optBytes_short (fun _ => rfl) _)
    fun g => optBytes_length htarget _) fun g => optBytes_short (fun _ => rfl) _) hdrives) fun g => hinputs _ _ _)
    fun g => hfault _) fun _ => rfl

theorem queue_places {queue : List QueuedFrame} (h : queue.length ≤ 8) : Places (repeated (queueValues queue)) := by
  refine repeated_places (n := 2) (List.forall_mem_map.mpr fun _ _ => Nat.le_refl 2) ?_
  rw [queueValues, List.length_map, List.length_zipIdx]
  omega

theorem line_places {s : State} (h : s.line.queue.length ≤ 8) : AllPlace s.statusLine := by
  have hretry := Nat.le_trans (onlyIf_length (s.line.state == .isolated) s.line.retryTimer.bytes) (timer_length _)
  exact .plain (.plain (.plain (.cons (.plain (.single (.plain (.plain (.plain (.plain (.plain (.plain (.plain (.plain
    (.plain (.plain (.plain (.plain (.plain (.single .nil (optBytes_short (fun _ => rfl) _)) rfl) rfl) rfl) rfl) rfl) rfl)
    rfl) rfl) rfl) rfl) rfl) rfl) rfl) (Nat.le_trans hretry (by decide))) rfl) (queue_places h)) rfl) rfl) rfl

theorem peers_places (s : State) : AllPlace s.statusPeers := by
  have hrollCall := Nat.le_trans (onlyIf_length (s.mode == .listening) s.peers.rollCall.bytes) (timer_length _)
  exact .plain (.single (.plain (.plain (.single (.plain (.plain (.single .nil (Nat.le_trans (timer_length _) (by decide))) rfl)
    rfl) (optBytes_short (fun _ => rfl) _)) rfl) rfl) (Nat.le_trans hrollCall (by decide))) rfl

theorem field_places (s : State) : AllPlace s.statusField := by
  have hname (b : Bool) : (twoName b).length ≤ 16 := by rw [twoName_length]; decide
  exact .perInput (.perInput (.perInput (.perInput (.gatesPlain (.single (.single (.single (.single (.plain (.plain (.plain
    (.plain (.perOutput (.perOutput (.perOutput (.plain .nil rfl) fun o => hname _) fun o => hname _)
    fun o => Nat.le_of_ble_eq_true rfl) rfl) rfl) rfl) rfl) (Nat.le_trans (timer_length _) (by decide)))
    (optBytes_short (fun _ => rfl) _)) (optBytes_short (fun _ => rfl) _)) (optBytes_short (fun _ => rfl) _)) fun _ => rfl)
    fun i => Nat.le_of_ble_eq_true rfl) fun i => optBytes_length hname _) fun i => hname _)
    fun i => Nat.le_of_ble_eq_true rfl

/-! ## Items that are not available (R172) -/

theorem map_unavailable_flatten (gs : List StatusGroup) :
    (gs.map (·.map StatusItem.unavailable)).flatten = gs.flatten.map StatusItem.unavailable :=
  List.map_flatten.symm

theorem available_flatten (gs : List StatusGroup) (s : State) :
    (s.available gs).flatten = withheld (decide (s.mode = .starting) && !s.blocksStarted) gs.flatten := by
  have hhidden : (decide (s.mode = .starting) && !s.blocksStarted) = true ↔
      s.mode = .starting ∧ s.blocksStarted = false := by
    rw [Bool.and_eq_true, decide_eq_true_eq, Bool.not_eq_true']
  unfold State.available withheld
  by_cases h : s.mode = .starting ∧ s.blocksStarted = false
  · rw [if_pos h, if_pos (hhidden.mpr h), map_unavailable_flatten]
    rfl
  · rw [if_neg h, if_neg (fun hk => h (hhidden.mp hk))]

theorem forRole_flatten {r other : Role} (hr : r ≠ other) (hall : ∀ x : Role, x = r ∨ x = other) (gs : List StatusGroup)
    (s : State) : (s.forRole r gs).flatten = withheld (decide (s.straps.role = other)) gs.flatten := by
  unfold State.forRole withheld
  obtain h | h := hall s.straps.role
  · rw [if_pos h, if_neg (by rw [decide_eq_true_eq, h]; exact hr)]
  · rw [if_neg (by rw [h]; exact hr.symm), if_pos (decide_eq_true h), map_unavailable_flatten]
    rfl

theorem forRole_tip_flatten (gs : List StatusGroup) (s : State) :
    (s.forRole .tip gs).flatten = withheld (decide (s.straps.role = .draw)) gs.flatten :=
  forRole_flatten (r := .tip) (other := .draw) nofun (fun x => by cases x <;> simp) gs s

theorem forRole_draw_flatten (gs : List StatusGroup) (s : State) :
    (s.forRole .draw gs).flatten = withheld (decide (s.straps.role = .tip)) gs.flatten :=
  forRole_flatten (r := .draw) (other := .tip) nofun (fun x => by cases x <;> simp) gs s

theorem Laid.available {lo hi : Nat} {gs : List StatusGroup} (h : Laid lo hi gs) (s : State) :
    Laid lo hi (s.available gs) := by
  unfold State.available
  split
  · exact h.unavailable
  · exact h

theorem Laid.forRole {lo hi : Nat} {gs : List StatusGroup} (h : Laid lo hi gs) (r : Role) (s : State) :
    Laid lo hi (s.forRole r gs) := by
  unfold State.forRole
  split
  · exact h
  · exact h.unavailable

/-- The items of all groups are those of every block in order. -/
theorem statusGroups_flatten (s : State) : s.statusGroups.flatten = statusShown s := by
  have hblock {block : Nat} {items : List (Nat → Nat → StatusGroup)} {l : List StatusItem}
      (h : Shows block 0 items l) : (blockGroups block items).flatten = l := h
  rw [State.statusGroups, statusShown]
  simp only [List.flatten_append, available_flatten, forRole_tip_flatten, forRole_draw_flatten, hblock (station_shows s),
    hblock (column_shows s), hblock (watch_shows s), hblock (holds_shows s), hblock (tip_shows s),
    hblock (breaker_shows s), hblock (gates_shows s), hblock (line_shows s), hblock (peers_shows s),
    hblock (field_shows s)]

/-- The groups stand in block and item order, each short enough. -/
theorem statusGroups_laid {s : State} (hh : s.HoldsKept) (hq : s.line.queue.length ≤ 8) : Laid 1 10 s.statusGroups := by
  have hcolumn := blockGroups_laid (column_places s) 2
  have hwatch := blockGroups_laid (watch_places s) 3
  have hholds := blockGroups_laid (holds_places hh) 4
  have htip := (blockGroups_laid (tip_places s) 5).forRole .tip s
  have hbreaker := (blockGroups_laid (breaker_places s) 6).forRole .tip s
  have hgates := (blockGroups_laid (gates_places s) 7).forRole .draw s
  have hline := blockGroups_laid (line_places hq) 8
  have hpeers := blockGroups_laid (peers_places s) 9
  have hmiddle : Laid 2 9 (blockGroups 2 s.statusColumn ++ blockGroups 3 s.statusWatch ++ blockGroups 4 s.statusHolds ++
      s.forRole .tip (blockGroups 5 s.statusTip) ++ s.forRole .tip (blockGroups 6 s.statusBreaker) ++
      s.forRole .draw (blockGroups 7 s.statusGates) ++ blockGroups 8 s.statusLine ++ blockGroups 9 s.statusPeers) :=
    (((((((hcolumn.append hwatch (by decide) (by decide) (by decide)).append hholds (by decide) (by decide)
      (by decide)).append htip (by decide) (by decide) (by decide)).append hbreaker (by decide) (by decide)
      (by decide)).append hgates (by decide) (by decide) (by decide)).append hline (by decide) (by decide)
      (by decide)).append hpeers (by decide) (by decide) (by decide))
  exact ((blockGroups_laid (station_places s) 1).append (hmiddle.available s) (by decide) (by decide) (by decide)).append
    (blockGroups_laid (field_places s) 10) (by decide) (by decide) (by decide)

/-! ## The obligation -/

theorem exec_status {s : State} (hp : s.port.restartPending = false) {first : Option (Byte × Byte)}
    (hlow : 1 ≤ (statusStart first).1) (hhigh : (statusStart first).1 ≤ 10) (hitem : 1 ≤ (statusStart first).2) :
    exec (.status first) s =
      .next (s.giveAnswer 16 (.status (s.statusFrom (statusStart first).1 (statusStart first).2))) := by
  have hrange : statusInRange (statusStart first) = true := by
    simp only [statusInRange, Bool.and_eq_true, decide_eq_true_eq]
    exact ⟨⟨hlow, hhigh⟩, hitem⟩
  show Host.Outcome.next (if s.port.restartPending = true then s
    else s.giveAnswer codeStatus (s.statusAnswer (statusStart first))) = _
  rw [if_neg (ne_true_of_eq_false hp), State.statusAnswer, if_pos hrange]
  rfl

theorem statusStart_eq (first : Option (Byte × Byte)) :
    statusStart first = ((first.map (fun x => x.1.toNat)).getD 1, (first.map (fun x => x.2.toNat)).getD 1) := by
  cases first <;> rfl

/-- The port with a report's answer and buffer. -/
def reportGiven (code : Nat) (b : AnswerBody) (r : Option ReportBuffer) (s : State) : State :=
  { s with port := { s.port with report := r, answer := some ⟨code, b⟩ } }

theorem exec_report {s : State} (h : s.TakesRequests) {kind : Byte} {x : Snapshot} (hx : s.snapshotOf kind = some x) :
    exec (.report kind) s = .next (reportGiven 17 (.part x 1 x.parts) (some ⟨x, 2⟩) s) := by
  show execReport kind s = _
  rw [execReport, hx]
  exact congrArg Host.Outcome.next (request_untested h (p := { s.port with report := some ⟨x, 2⟩ }) rfl)

theorem peersSnapshot_parts (f : PeerRecord → PeerRecord × Option Nat) (l : List PeerRecord) :
    (Snapshot.peers (l.map f)).parts = max 1 ((l.length + 1) / 2) := by
  rw [Snapshot.parts, Snapshot.count, List.length_map]
  rfl

theorem exec_reportNext_part {s : State} (h : s.TakesRequests) {b : ReportBuffer} (hb : s.port.report = some b)
    (hnext : b.next ≤ b.snapshot.parts) :
    exec .reportNext s = .next (reportGiven 18 (.part b.snapshot b.next b.snapshot.parts)
      (some { b with next := b.next + 1 }) s) := by
  show execReportNext s = _
  rw [execReportNext, hb]
  dsimp only
  rw [if_pos hnext]
  exact congrArg Host.Outcome.next
    (request_untested h (p := { s.port with report := some { b with next := b.next + 1 } }) rfl)

theorem exec_reportNext_end {s : State} (h : s.TakesRequests) {b : ReportBuffer} (hb : s.port.report = some b)
    (hnext : b.snapshot.parts < b.next) :
    exec .reportNext s = .next (reportGiven 18 (.endOfReport b.snapshot b.snapshot.parts) none s) := by
  show execReportNext s = _
  rw [execReportNext, hb]
  dsimp only
  rw [if_neg (Nat.not_le.mpr hnext)]
  exact congrArg Host.Outcome.next (request_untested h (p := { s.port with report := none }) rfl)

theorem exec_reportNext_none {s : State} (h : s.TakesRequests) (hb : s.port.report = none) :
    exec .reportNext s = .next (reportGiven 18 (.refused .notActive) none s) := by
  show execReportNext s = _
  rw [execReportNext, hb]
  dsimp only
  rw [request_answered (refusal := some (.refused .notActive)) h rfl (t := s) nofun, reportGiven, ← hb]
  rfl

/-- Settles O52: STATUS by the layout of its groups, the reports by their snapshots. -/
theorem statusAndReportsAnswered : Obligations.StatusAndReportsAnswered := by
  intro s hp given
  refine ⟨?_, fun hm => ?_⟩
  · intro first block item hlow hhigh hitem hholds hqueue
    have hstart : statusStart first = (block, item) := statusStart_eq first
    refine ⟨s.statusFrom block item, ?_, ?_⟩
    · rw [exec_status hp (by rw [hstart]; exact hlow) (by rw [hstart]; exact hhigh) (by rw [hstart]; exact hitem), hstart]
      rfl
    · have hrun := statusFrom_runOf (statusGroups_laid hholds hqueue) block item
      rw [statusGroups_flatten] at hrun
      exact hrun
  · have h : s.TakesRequests := ⟨hp, hm⟩
    have hpeers := exec_report (kind := 3#8) h rfl
    rw [peersSnapshot_parts] at hpeers
    exact ⟨exec_report h rfl, exec_report h rfl, hpeers, exec_report h rfl, exec_reportNext_none h,
      fun b hb hnext => exec_reportNext_part h hb hnext, fun b hb hnext => exec_reportNext_end h hb hnext⟩

end Sys2Proof.Machine
end
